-- ==== Sys2Proof/Word.lean ====
section
/-! DEFINITION. The widths of the part (00 Samples and counts, 02 Carriage Packet Formats) and the index ranges of the
conventions (00 Indices). -/

namespace Sys2Proof

/-- Half of a word: high byte 15 to 8, low byte 7 to 0 (02). -/
abbrev Byte := BitVec 8

/-- A 16-bit carriage word, request or reply payload word. -/
abbrev Word := BitVec 16

/-- A 24-bit two's-complement sample, −8388608 to 8388607 (00). -/
abbrev Sample := BitVec 24

/-- A write or read count, modulo 16777216 (00). -/
abbrev Count := BitVec 24

/-- A 16-bit counter; it saturates at 65535 (00). -/
abbrev Counter := BitVec 16

/-- L0 to L7. -/
abbrev LaneIx := Fin 8

/-- Groups 0 to 3 of a lane. -/
abbrev GroupIx := Fin 4

/-- P0 and P1. -/
abbrev PortIx := Fin 2

/-- Channels 0 to 3 of a port. -/
abbrev ChanIx := Fin 4

/-- Source index s: 16·lane + 4·group + track, or 128 + 32·port + 8·channel + track (00). -/
abbrev SourceIx := Fin 192

/-- Destination index, by the same scheme (00). -/
abbrev DestIx := Fin 192

/-- Interfaces and scopes: 0 to 7 for L0 to L7, 8 for P0, 9 for P1 (R25). -/
abbrev Iface := Fin 10

end Sys2Proof
end

