-- ==== Sys2Proof/Syntax.lean ====
section
/-! DEFINITION. The commands of the part, one constructor per row of spec/opcode_table.json, with the operands that the
row's rule names. -/

namespace Sys2Proof

/-- The eight formats the part recognises (01, The eight formats). -/
inductive Format where
  | f23 | f24 | f25 | f29 | f30 | f50 | f59 | f60
  deriving DecidableEq, Repr

/-- The role of the frame count unit (09); strap low is LEADER, high FOLLOWER (R138). -/
inductive Role where
  | leader | follower
  deriving DecidableEq, Repr

/-- A 17-bit port word: a marker flag and 16 data bits (02, Port words and bundles). -/
structure PortWord where
  marker : Bool
  data : Word
  deriving DecidableEq, Repr

/-- The part's steps. A request row is the control unit taking that request from its arrival interface, with the sequence
tag and the parameter words as written (R25, R163). -/
inductive Instr where
  /-- R17. -/
  | powerOnResetAssert
  /-- R172, R173: the release, with the straps as they stand at it. -/
  | powerOnResetRelease (unitAddress : BitVec 7) (role : Role) (refLane : LaneIx)
  /-- R1. -/
  | linkSignalAppears (lane : LaneIx)
  /-- R1. -/
  | linkSignalLost (lane : LaneIx)
  /-- R2: a frame start; `timing` is the format whose timing the closing frame matches, as the lane section measures it
  (none: it matches none of the eight). -/
  | frameStart (lane : LaneIx) (timing : Option Format)
  /-- R31: an input carriage line with the words of its blanking space. -/
  | inputCarriageLine (lane : LaneIx) (blanking : List Word)
  /-- R7. -/
  | outputFrameStart (lane : LaneIx)
  /-- R109. -/
  | outputLineBuild (lane : LaneIx)
  /-- R122. -/
  | portWordReceived (port : PortIx) (word : PortWord)
  /-- R123. -/
  | stagingWordTaken (port : PortIx)
  /-- R127. -/
  | channelAbsenceTimeout (port : PortIx) (channel : ChanIx)
  /-- R129. -/
  | portFrame (port : PortIx)
  /-- R133. -/
  | portPeriod (port : PortIx)
  /-- R132. -/
  | transmitStall (port : PortIx)
  /-- R132. -/
  | outFifoWordTaken (port : PortIx)
  /-- R167, R66. -/
  | readRoute (iface : Iface) (tag : Word) (params : List Word)
  /-- R167, R68. -/
  | readRouteState (iface : Iface) (tag : Word) (params : List Word)
  /-- R63. -/
  | readSource (iface : Iface) (tag : Word) (params : List Word)
  /-- R167. -/
  | readLane (iface : Iface) (tag : Word) (params : List Word)
  /-- R167, R121. -/
  | readPort (iface : Iface) (tag : Word) (params : List Word)
  /-- R167, R138. -/
  | readReference (iface : Iface) (tag : Word) (params : List Word)
  /-- R149. -/
  | readTake (iface : Iface) (tag : Word) (params : List Word)
  /-- R171. -/
  | readDevice (iface : Iface) (tag : Word) (params : List Word)
  /-- R56. -/
  | setSource (iface : Iface) (tag : Word) (params : List Word)
  /-- R143. -/
  | setReference (iface : Iface) (tag : Word) (params : List Word)
  /-- R128, R131. -/
  | setPort (iface : Iface) (tag : Word) (params : List Word)
  /-- R169. -/
  | clearCounters (iface : Iface) (tag : Word) (params : List Word)
  /-- R170. -/
  | resetUnit (iface : Iface) (tag : Word) (params : List Word)
  /-- R151. -/
  | openTake (iface : Iface) (tag : Word) (params : List Word)
  /-- R152. -/
  | setRoute (iface : Iface) (tag : Word) (params : List Word)
  /-- R153. -/
  | setPlan (iface : Iface) (tag : Word) (params : List Word)
  /-- R155. -/
  | commitTake (iface : Iface) (tag : Word) (params : List Word)
  /-- R156. -/
  | abandonTake (iface : Iface) (tag : Word) (params : List Word)
  /-- R161. -/
  | undoTake (iface : Iface) (tag : Word) (params : List Word)
  /-- R25: a request of a kind not in the table. -/
  | unknownRequestKind (iface : Iface) (kind : Byte) (tag : Word) (params : List Word)
  /-- R154. -/
  | takeExpiry
  deriving DecidableEq, Repr

end Sys2Proof
end

