-- ==== Sys2Proof/Config.lean ====
section
/-! DEFINITION. What the manual leaves free. -/

namespace Sys2Proof

/-- FREE VALUE (DESIGN CHOICE, log entry 6). The hold value of an old source stream that is lapped before it has yielded
any sample: R81 and R92 give "the last sample it yielded", and there is none. Of the stream's source index and read
count; it has no body, so nothing can be proved of it. -/
opaque Config.unyieldedHold : Nat → BitVec 24 → BitVec 24

end Sys2Proof
end

