-- ==== Sys2Proof/Machine/State.lean ====
section
/-! DEFINITION. Every piece of state the manual gives the part, as plain data, and its power-on values. The queue of waiting
commands (`pending`), the three `…Due` fields and the held samples of a port are the model's own. -/

namespace Sys2Proof.Machine

/-! ### Lane section, stripper and arbiter (01, 03, 07) -/

/-- Lane input states (01). -/
inductive InputState where
  | noSignal | acquiring | locked
  deriving DecidableEq, Repr

/-- Group modes of a lane plan (R10). -/
inductive GroupMode where
  | pass | strip | embedFull | embedCompact
  deriving DecidableEq, Repr

/-- The lane plan (01, The lane plan). -/
structure LanePlan where
  modes : Vector GroupMode 4
  /-- absent, or 32 to 256 words (R12) -/
  budget : Option Nat
  deriving DecidableEq, Repr

/-- An output sample with its V flag (R96). -/
structure OutSample where
  value : Sample
  valid : Bool
  deriving DecidableEq, Repr

/-- One instant of a group's carry queue: the sample of each track 0 to 3. Held by instants, so the four track queues
always hold the same number (R107). -/
abbrev Instant := Vector OutSample 4

/-- A packet of a pass list, every word as it arrived; a sound group packet also records its group (03, What the stripper
holds). -/
structure PassEntry where
  group : Option GroupIx
  words : List Word
  deriving DecidableEq, Repr

/-- The pass list awaiting build, with its line number (R31) and the line's blanking space as it arrived, which leaves in
bypass when the lane is lost before the build (R8, R32). -/
structure AwaitingBuild where
  line : Nat
  blanking : List Word
  passList : List PassEntry
  deriving DecidableEq, Repr

/-- The reply turn of an arbiter (R115). -/
inductive ReplyTurn where
  | before | after
  deriving DecidableEq, Repr

/-- The nine lane counters (R13). -/
structure LaneCounters where
  malformed : Counter
  damaged : Counter
  displaced : Counter
  overrun : Vector Counter 4
  slips : Counter
  discardedReplies : Counter
  deriving DecidableEq, Repr

/-- One lane: its input record, plan, stripper, carriage builder and arbiter. -/
structure Lane where
  /-- the link input carries a signal (R1): a pin -/
  linkSignal : Bool
  inputState : InputState
  /-- locked format, or candidate, or none -/
  format : Option Format
  frameOpen : Bool
  lineCount : Nat
  /-- the lane has locked and its first output frame start is still to come (R146) -/
  firstFrame : Bool
  plan : LanePlan
  /-- R83 -/
  running : Vector Bool 4
  queues : Vector (List Instant) 4
  rotation : GroupIx
  replyTurn : ReplyTurn
  seen : Vector Bool 4
  passProgress : List PassEntry
  awaiting : Option AwaitingBuild
  counters : LaneCounters
  /-- the blanking content of the last carriage line on the link output: a pin -/
  linkOut : List Word
  deriving DecidableEq, Repr

/-! ### Source table and sample store (04) -/

/-- A sample buffer of 8192 places (R50): the places that do not hold 0, by rising place, with what they hold. -/
abbrev Memory := List (Nat × Sample)

/-- One source record with its buffer (04, The source record). -/
structure Source where
  silenceLevel : Nat
  present : Bool
  writeCount : Count
  validSpan : Nat
  lastSample : Sample
  blockPosition : Nat
  blockLoud : Bool
  silentRun : Nat
  activeRun : Nat
  presentRun : Nat
  peak : Nat
  dropped : Counter
  gaps : Counter
  buffer : Memory
  deriving DecidableEq, Repr

/-! ### Route table (05) -/

/-- Absence fill of an entry (R98). -/
inductive AbsenceFill where
  | silence | hold
  deriving DecidableEq, Repr

/-- Revert policy of an entry (R76). -/
inductive RevertPolicy where
  | auto | latched
  deriving DecidableEq, Repr

/-- A committed route entry (05, The committed entry). -/
structure RouteEntry where
  enabled : Bool
  candidates : List SourceIx
  gain : Word
  invert : Bool
  mute : Bool
  /-- 128 to 6000 -/
  delay : Nat
  absenceFill : AbsenceFill
  silenceWatch : Bool
  failCode : Fin 8
  revertCode : Fin 8
  policy : RevertPolicy
  deriving DecidableEq, Repr

/-- A source stream (R69), with the last value it yielded, which R81 needs. -/
structure SourceStream where
  source : SourceIx
  readCount : Count
  gain : Word
  invert : Bool
  mute : Bool
  lastYield : Option Sample
  deriving DecidableEq, Repr

/-- A fill stream (R69). -/
inductive FillStream where
  | silence
  | hold (value : Sample)
  deriving DecidableEq, Repr

/-- What a destination reads (R69). -/
inductive Stream where
  | source (stream : SourceStream)
  | fill (stream : FillStream)
  deriving DecidableEq, Repr

/-- States of a live record (R68). -/
inductive DestState where
  | idle | parked | active | filling
  deriving DecidableEq, Repr

/-- The six counters of a live record (R89). -/
structure DestCounters where
  failovers : Counter
  reverts : Counter
  realigns : Counter
  reseats : Counter
  starves : Counter
  laps : Counter
  deriving DecidableEq, Repr

/-- A live destination record (05, The live record). -/
structure LiveRecord where
  state : DestState
  active : Option Nat
  current : Option Stream
  old : Option Stream
  /-- crossfade position, 0 to 32; 32 means no fade -/
  fade : Nat
  lastOut : Sample
  counters : DestCounters
  deriving DecidableEq, Repr

/-! ### Sound ports (08) -/

/-- A clock a port can run on: a lane's sample clock or the station clock (R130). As a plan's clock source the station
clock is "internal". -/
inductive Clock where
  | lane (lane : LaneIx)
  | station
  deriving DecidableEq, Repr

/-- The port plan (08). -/
structure PortPlan where
  channels : Vector Bool 4
  clock : Clock
  deriving DecidableEq, Repr

/-- The receive staging (R123): the open bundle's channel code, bundle count, n, the body words held (at most 1024) and
the body length. -/
inductive Staging where
  | idle
  | header (channel : Nat)
  | body (channel : Nat) (count : Byte) (samples : Nat) (words : List Word) (length : Nat)
  deriving DecidableEq, Repr

/-- Transmit states (R131). -/
inductive TransmitState where
  | disabled | running | stalled
  deriving DecidableEq, Repr

/-- The four port counters (R121). -/
structure PortCounters where
  discarded : Counter
  truncated : Counter
  skipped : Counter
  fallbacks : Counter
  deriving DecidableEq, Repr

/-- One sound port (R121). -/
structure Port where
  receiveEnable : Bool
  inFifo : List PortWord
  staging : Staging
  prevCount : Vector (Option Byte) 4
  /-- none: stopped; it stands at 2048 from its expiry until the timeout is taken or a bundle restarts it (R127) -/
  absence : Vector (Option Nat) 4
  /-- MODEL's own: a channel's absence timeout has fallen due and is not yet taken (R127; log entry 19) -/
  absenceDue : Vector Bool 4
  transmit : TransmitState
  outFifo : List PortWord
  stallTimer : Nat
  nextCount : Byte
  position : Nat
  clock : Clock
  plan : PortPlan
  /-- R84 -/
  running : Vector Bool 4
  /-- MODEL's own: a port frame has fallen due and is not yet taken (R129) -/
  frameDue : Bool
  /-- MODEL's own: a port period has fallen due and is not yet taken (R129) -/
  periodDue : Bool
  /-- MODEL's own: samples of the lane clock that fall at the line's event after the port frame one of them raised (R5, R136;
  log entry 32) -/
  heldSamples : Nat
  counters : PortCounters
  /-- the last port word taken from the out FIFO: a pin -/
  linkOut : Option PortWord
  deriving DecidableEq, Repr

/-! ### Frame count unit (09) -/

/-- The frame count unit (09). Sets of lanes are 8 bits, bit n for lane Ln. -/
structure Reference where
  count : Fin 60000
  role : Role
  refLane : LaneIx
  markIn : BitVec 8
  markOut : BitVec 8
  pendingMark : Vector (Option (Fin 60000)) 8
  phase : Vector (Fin 5) 8
  realign : Vector Bool 8
  inStep : Counter
  jumps : Counter
  invalid : Counter
  ignored : Counter
  deriving DecidableEq, Repr

/-! ### Take unit (10) -/

/-- The plan of a scope: of a lane or of a port. -/
inductive ScopePlan where
  | lane (plan : LanePlan)
  | port (plan : PortPlan)
  deriving DecidableEq, Repr

/-- States of the take (10). -/
inductive TakeState where
  | opened | pending
  deriving DecidableEq, Repr

/-- Origins of the take (10). -/
inductive TakeOrigin where
  | commit | undo
  deriving DecidableEq, Repr

/-- The take (10). Latches are held by rising destination, at most one for each. -/
structure Take where
  state : TakeState
  scope : Iface
  owner : Iface
  latches : List (DestIx × RouteEntry)
  plan : Option ScopePlan
  expiry : Nat
  origin : TakeOrigin
  tag : Word
  deriving DecidableEq, Repr

/-- What an applied take replaced (R158). -/
structure UndoRecord where
  entries : List (DestIx × RouteEntry)
  plan : Option ScopePlan
  deriving DecidableEq, Repr

/-! ### Control unit (11) -/

/-- A queued reply: its interface and its whole payload (R164). -/
structure Reply where
  iface : Iface
  payload : List Word
  deriving DecidableEq, Repr

/-- The straps as read at the release of power-on reset (R172). -/
structure Straps where
  unitAddress : BitVec 7
  role : Role
  refLane : LaneIx
  deriving DecidableEq, Repr

/-- The whole part. -/
structure State where
  /-- commands that wait, first in first out: the MODEL's own -/
  pending : List Instr
  /-- power-on reset is held (R17) -/
  resetHeld : Bool
  lanes : Vector Lane 8
  sources : Vector Source 192
  /-- committed entries (R66) -/
  entries : Vector RouteEntry 192
  /-- live records (R68) -/
  dests : Vector LiveRecord 192
  ports : Vector Port 2
  ref : Reference
  take : Option Take
  /-- undo stacks by scope, newest record first (R158) -/
  undo : Vector (List UndoRecord) 10
  /-- the reply queue, oldest first (R164) -/
  replies : List Reply
  straps : Straps
  /-- R171 -/
  unanswered : Counter
  /-- R171 -/
  droppedApplied : Counter
  deriving DecidableEq, Repr

/-- Why the part stops: it never does. The manual gives no machine check, trap or stop, so there is no constructor and no
command faults. -/
inductive Fault : Type
  deriving DecidableEq, Repr

/-- Why a command has no meaning. -/
inductive Refusal where
  /-- Raised by an arm of `exec` whose command has no meaning yet; safe. No arm raises it. -/
  | notModelled (mnemonic : String)
  deriving DecidableEq, Repr

/-! ### Power-on values (R17, R32, R51, R66, R68, R107, R115, R121, R138, R149, R164, R171, R173) -/

/-- R13: all nine 0. -/
def LaneCounters.zero : LaneCounters where
  malformed := 0
  damaged := 0
  displaced := 0
  overrun := Vector.replicate 4 0
  slips := 0
  discardedReplies := 0

/-- R17: PASS on all four groups, budget absent. -/
def LanePlan.powerOn : LanePlan where
  modes := Vector.replicate 4 .pass
  budget := none

/-- R17, R32, R107, R115. The two pins: no signal, nothing sent (DESIGN CHOICE, log entries 5 and 13). -/
def Lane.powerOn : Lane where
  linkSignal := false
  inputState := .noSignal
  format := none
  frameOpen := false
  lineCount := 0
  firstFrame := false
  plan := .powerOn
  running := Vector.replicate 4 false
  queues := Vector.replicate 4 []
  rotation := 0
  replyTurn := .before
  seen := Vector.replicate 4 false
  passProgress := []
  awaiting := none
  counters := .zero
  linkOut := []

/-- R51. -/
def Source.powerOn : Source where
  silenceLevel := 0
  present := false
  writeCount := 0
  validSpan := 0
  lastSample := 0
  blockPosition := 0
  blockLoud := false
  silentRun := 0
  activeRun := 0
  presentRun := 0
  peak := 0
  dropped := 0
  gaps := 0
  buffer := []

/-- R66: disabled, no candidates, unity gain, delay 480, SILENCE, watch off, both codes 0, AUTO. -/
def RouteEntry.powerOn : RouteEntry where
  enabled := false
  candidates := []
  gain := 16384
  invert := false
  mute := false
  delay := 480
  absenceFill := .silence
  silenceWatch := false
  failCode := 0
  revertCode := 0
  policy := .auto

/-- R89: all six 0. -/
def DestCounters.zero : DestCounters where
  failovers := 0
  reverts := 0
  realigns := 0
  reseats := 0
  starves := 0
  laps := 0

/-- R68. -/
def LiveRecord.powerOn : LiveRecord where
  state := .idle
  active := none
  current := none
  old := none
  fade := 32
  lastOut := 0
  counters := .zero

/-- R121: all four 0. -/
def PortCounters.zero : PortCounters where
  discarded := 0
  truncated := 0
  skipped := 0
  fallbacks := 0

/-- R121: no channels; internal. -/
def PortPlan.powerOn : PortPlan where
  channels := Vector.replicate 4 false
  clock := .station

/-- R121. Nothing is due and nothing has been taken from the out link (DESIGN CHOICE, log entries 12, 13, 19 and 32). -/
def Port.powerOn : Port where
  receiveEnable := true
  inFifo := []
  staging := .idle
  prevCount := Vector.replicate 4 none
  absence := Vector.replicate 4 none
  absenceDue := Vector.replicate 4 false
  transmit := .disabled
  outFifo := []
  stallTimer := 0
  nextCount := 0
  position := 0
  clock := .station
  plan := .powerOn
  running := Vector.replicate 4 false
  frameDue := false
  periodDue := false
  heldSamples := 0
  counters := .zero
  linkOut := none

/-- R138, with role and reference lane from the straps. -/
def Reference.powerOn (straps : Straps) : Reference where
  count := 0
  role := straps.role
  refLane := straps.refLane
  markIn := 0xFF
  markOut := 0
  pendingMark := Vector.replicate 8 none
  phase := Vector.replicate 8 0
  realign := Vector.replicate 8 false
  inStep := 0
  jumps := 0
  invalid := 0
  ignored := 0

/-- The power-on state of every block (R173) with these straps, no link signal and no command waiting. -/
def State.powerOn (straps : Straps) : State where
  pending := []
  resetHeld := false
  lanes := Vector.replicate 8 .powerOn
  sources := Vector.replicate 192 .powerOn
  entries := Vector.replicate 192 .powerOn
  dests := Vector.replicate 192 .powerOn
  ports := Vector.replicate 2 .powerOn
  ref := .powerOn straps
  take := none
  undo := Vector.replicate 10 []
  replies := []
  straps := straps
  unanswered := 0
  droppedApplied := 0

/-- The straps a part stands with before the outside releases power-on reset with others: address 0, LEADER, L0 (DESIGN
CHOICE, log entry 4). -/
def Straps.atReset : Straps where
  unitAddress := 0
  role := .leader
  refLane := 0

/-- The part right after a release of power-on reset (R173). -/
def State.reset : State :=
  State.powerOn Straps.atReset

end Sys2Proof.Machine
end

