-- ==== Sys2Proof/Machine/Ops.lean ====
section
/-! DEFINITION. The named operations over tables, counters, words, the sample store, the blocks of State and the reply
queue. -/

namespace Sys2Proof.Machine

/-! ### Tables -/

/-- `f` of every element of `l`, with its index counted from `i`. -/
def updateFrom {α : Type} (n : Nat) (f : Fin n → α → α) : (l : List α) → (i : Nat) → i + l.length ≤ n → List α
  | [], _, _ => []
  | a :: l, i, h =>
    f ⟨i, by simp only [List.length_cons] at h; omega⟩ a ::
      updateFrom n f l (i + 1) (by simp only [List.length_cons] at h; omega)

theorem updateFrom_length {α : Type} (n : Nat) (f : Fin n → α → α) (l : List α) (i : Nat) (h : i + l.length ≤ n) :
    (updateFrom n f l i h).length = l.length := by
  induction l generalizing i with
  | nil => rfl
  | cons a l ih => simp [updateFrom, ih]

/-- Every place of a table changed at once, each by its own index. -/
def updateAll {α : Type} {n : Nat} (v : Vector α n) (f : Fin n → α → α) : Vector α n :=
  ⟨⟨updateFrom n f v.toList 0 (by simp)⟩, by simp [updateFrom_length]⟩

/-- One place of a table changed. -/
def modifyAt {α : Type} {n : Nat} (v : Vector α n) (i : Fin n) (f : α → α) : Vector α n :=
  v.set i.val (f v[i]) i.isLt

/-- The table of four whose place i holds `f i`. -/
def four {α : Type} (f : Fin 4 → α) : Vector α 4 :=
  #v[f 0, f 1, f 2, f 3]

/-! ### Counters, bytes and bits -/

/-- A counter raised by n; it saturates at 65535 (00 Samples and counts). -/
def raise (c : Counter) (n : Nat) : Counter :=
  BitVec.ofNat 16 (min 65535 (c.toNat + n))

/-- Bits 15 to 8. -/
def hiByte (w : Word) : Byte :=
  w.extractLsb' 8 8

/-- Bits 7 to 0. -/
def loByte (w : Word) : Byte :=
  w.extractLsb' 0 8

/-- The word of two bytes, high byte first. -/
def bytes (hi lo : Byte) : Word :=
  hi ++ lo

/-- The `len` bits of a word from bit `lo` up, as a number. -/
def field (w : Word) (lo len : Nat) : Nat :=
  w.toNat / 2 ^ lo % 2 ^ len

/-- A number as a word. -/
def toWord (n : Nat) : Word :=
  BitVec.ofNat 16 n

/-- A flag as 0 or 1. -/
def bitNat (b : Bool) : Nat :=
  if b then 1 else 0

/-! ### Indices (00 Indices) -/

/-- Lane source or destination 16·n + 4·g + t. -/
def laneTrack (n : LaneIx) (g : GroupIx) (t : Fin 4) : Fin 192 :=
  ⟨16 * n.val + 4 * g.val + t.val, by omega⟩

/-- Port source or destination 128 + 32·p + 8·c + t. -/
def portTrack (p : PortIx) (c : ChanIx) (t : Fin 8) : Fin 192 :=
  ⟨128 + 32 * p.val + 8 * c.val + t.val, by omega⟩

/-- Scope and interface of a lane. -/
def laneScope (n : LaneIx) : Iface :=
  ⟨n.val, by omega⟩

/-- Scope and interface of a port. -/
def portScope (p : PortIx) : Iface :=
  ⟨8 + p.val, by omega⟩

/-- Where an interface, scope, source or destination lies. -/
inductive Place where
  | lane (lane : LaneIx)
  | port (port : PortIx)
  deriving DecidableEq, Repr

/-- The lane or port of an interface or scope (R25). -/
def ifacePlace (i : Iface) : Place :=
  if h : i.val < 8 then .lane ⟨i.val, h⟩ else .port ⟨i.val - 8, by omega⟩

/-- The lane or port of a source or destination index. -/
def trackPlace (d : Fin 192) : Place :=
  if h : d.val < 128 then .lane ⟨d.val / 16, by omega⟩ else .port ⟨(d.val - 128) / 32, by omega⟩

/-- The scope that a destination belongs to: 16·n to 16·n + 15, or 128 + 32·p to 128 + 32·p + 31 (R149). -/
def trackScope (d : Fin 192) : Iface :=
  match trackPlace d with
  | .lane n => laneScope n
  | .port p => portScope p

/-- The group of a lane track. -/
def trackGroup (d : Fin 192) : GroupIx :=
  ⟨d.val / 4 % 4, by omega⟩

/-- The channel of a port track. -/
def trackChannel (d : Fin 192) : ChanIx :=
  ⟨(d.val - 128) / 8 % 4, by omega⟩

/-! ### The sample store (R50 to R52) -/

/-- What a buffer place holds; 0 where nothing else has been written since power-on (R51). -/
def Memory.read : Memory → Nat → Sample
  | [], _ => 0
  | (q, v) :: rest, p => if q = p then v else Memory.read rest p

/-- The buffer with `v` in place `p`, in the same canonical form. -/
def Memory.write : Memory → Nat → Sample → Memory
  | [], p, v => if v = 0 then [] else [(p, v)]
  | (q, w) :: rest, p, v =>
    if p < q then (if v = 0 then (q, w) :: rest else (p, v) :: (q, w) :: rest)
    else if p = q then (if v = 0 then rest else (p, v) :: rest)
    else (q, w) :: Memory.write rest p v

/-- The canonical form: places strictly rising and below 8192, and no place listed with the 0 an unlisted place reads. -/
def Memory.wf (b : Memory) : Bool :=
  decide ((b.map Prod.fst).Pairwise (· < ·)) && b.all fun c => decide (c.1 < 8192) && decide (c.2 ≠ 0)

/-! ### Blocks of the state -/

/-- The state with one lane changed. -/
def State.modifyLane (s : State) (n : LaneIx) (f : Lane → Lane) : State :=
  { s with lanes := modifyAt s.lanes n f }

/-- The state with one port changed. -/
def State.modifyPort (s : State) (p : PortIx) (f : Port → Port) : State :=
  { s with ports := modifyAt s.ports p f }

/-- The state with one source changed. -/
def State.modifySource (s : State) (i : SourceIx) (f : Source → Source) : State :=
  { s with sources := modifyAt s.sources i f }

/-- The state with every lane changed by its own index. -/
def State.updateLanes (s : State) (f : LaneIx → Lane → Lane) : State :=
  { s with lanes := updateAll s.lanes f }

/-- The state with every port changed by its own index. -/
def State.updatePorts (s : State) (f : PortIx → Port → Port) : State :=
  { s with ports := updateAll s.ports f }

/-- The state with every source changed by its own index. -/
def State.updateSources (s : State) (f : SourceIx → Source → Source) : State :=
  { s with sources := updateAll s.sources f }

/-- The state with every live record changed by its own index. -/
def State.updateDests (s : State) (f : DestIx → LiveRecord → LiveRecord) : State :=
  { s with dests := updateAll s.dests f }

/-- The state with the frame count unit changed. -/
def State.modifyRef (s : State) (f : Reference → Reference) : State :=
  { s with ref := f s.ref }

/-! ### The reply queue (R164, R166) -/

/-- The oldest reply for an interface, if there is one. -/
def oldestReply (i : Iface) (rs : List Reply) : Option Reply :=
  rs.find? fun r => decide (r.iface = i)

/-- The queue without the oldest reply for an interface. -/
def dropOldestReply (i : Iface) (rs : List Reply) : List Reply :=
  rs.eraseP fun r => decide (r.iface = i)

/-- The queue without any reply for an interface (R166). -/
def purgeReplies (i : Iface) (rs : List Reply) : List Reply :=
  rs.filter fun r => decide (r.iface ≠ i)

/-- How many replies for an interface the queue holds. -/
def countReplies (i : Iface) (rs : List Reply) : Nat :=
  rs.countP fun r => decide (r.iface = i)

/-! ### Power-on reset -/

/-- A command's effect, unless power-on reset is held: then it has none (log entry 3; R17 gives bypass alone). -/
def powered (s : State) (f : State → State) : Host.Outcome State Fault Refusal :=
  .next (if s.resetHeld then s else f s)

end Sys2Proof.Machine
end

