-- ==== Sys2Proof/Machine/Arithmetic.lean ====
section
/-! DEFINITION. Sample arithmetic (06): scaled magnitude, polarity, gain and mute, crossfade, compact coding, and the two
counts of samples per frame and per line. -/

namespace Sys2Proof.Machine

/-- Scaled magnitude: |s| shifted right by 8 places, capped at 32767 (04, R100). -/
def scaledMagnitude (s : Sample) : Nat :=
  min 32767 (s.toInt.natAbs / 256)

/-- Stage 2 (R93): negated when the stream inverts; −8388608 becomes 8388607. -/
def polarity (invert : Bool) (x : Sample) : Sample :=
  if invert then (if x = 0x800000#24 then 0x7FFFFF#24 else -x) else x

/-- An exact value narrowed to the 24-bit range by saturation (R94). -/
def saturate (r : Int) : Sample :=
  if 8388607 < r then 0x7FFFFF#24 else if r < -8388608 then 0x800000#24 else BitVec.ofInt 24 r

/-- Gain (R94): floor((x·g + 8192) / 16384), saturated. -/
def applyGain (gain : Word) (x : Sample) : Sample :=
  saturate ((x.toInt * gain.toNat + 8192) / 16384)

/-- Stage 3 (R94, R95). -/
def gainAndMute (gain : Word) (mute : Bool) (x : Sample) : Sample :=
  if mute then 0 else applyGain gain x

/-- Stage 4 (R96): floor((old·(32 − k) + new·k + 16) / 32). -/
def blend (k : Nat) (old new : Sample) : Sample :=
  BitVec.ofInt 24 ((old.toInt * (32 - k) + new.toInt * k + 16) / 32)

/-- The code of a scaled magnitude (R100). -/
def compactCode (m : Nat) : Nat :=
  if m ≤ 511 then m
  else if m ≤ 2047 then 512 + (m - 512) / 4
  else if m ≤ 8191 then 896 + (m - 2048) / 16
  else 1280 + (m - 8192) / 32

/-- The magnitude a code expands to (R102). -/
def expandCode (c : Nat) : Nat :=
  if c ≤ 511 then c
  else if c ≤ 895 then 512 + 4 * (c - 512) + 2
  else if c ≤ 1279 then 2048 + 16 * (c - 896) + 8
  else 8192 + 32 * (c - 1280) + 16

/-- The sample a sign and code stand for: the expanded magnitude times 256, negated when the sign is 1 (R102). -/
def expandSample (negative : Bool) (c : Nat) : Sample :=
  BitVec.ofInt 24 (if negative then -(expandCode c * 256 : Int) else expandCode c * 256)

/-! ### Formats -/

/-- F29 and F59 are the fractional formats (R5). -/
def formatFractional : Format → Bool
  | .f29 => true
  | .f59 => true
  | _ => false

/-- Default budget of a format (01, The eight formats). -/
def formatBudget : Format → Nat
  | .f50 => 128
  | .f59 => 128
  | .f60 => 128
  | _ => 256

/-- S, the samples per track of one output frame at cadence phase k (R103). -/
def frameSamples (f : Format) (k : Nat) : Nat :=
  match f with
  | .f23 => 2002
  | .f24 => 2000
  | .f25 => 1920
  | .f29 => (k + 1) * 8008 / 5 - k * 8008 / 5
  | .f30 => 1600
  | .f50 => 960
  | .f59 => (k + 1) * 4004 / 5 - k * 4004 / 5
  | .f60 => 800

/-- n_j, the samples per track of output line j of a frame of S samples (R104). -/
def lineSamples (S j : Nat) : Nat :=
  (j + 1) * S / 1120 - j * S / 1120

end Sys2Proof.Machine
end

