-- ==== Sys2Proof/Machine/Operands.lean ====
section
/-! DEFINITION. Every layout of 02 Carriage Packet Formats: packets and their check word, samples in full and compact
grade, port words and bundles, the parameter words of requests, and replies with their data. -/

namespace Sys2Proof.Machine

/-! ### Packets (R18 to R20) -/

/-- The lead word (02, Framing). -/
def leadWord : Word := 0xC3A5

/-- Sum of words modulo 65536 (R19). -/
def wordSum (ws : List Word) : Word :=
  ws.foldr (· + ·) 0

/-- A packet: lead word, kind and length, payload, check word (R19: the words of the packet sum to 0). -/
def buildPacket (kind : Byte) (payload : List Word) : List Word :=
  let head := leadWord :: bytes kind (BitVec.ofNat 8 payload.length) :: payload
  head ++ [-(wordSum head)]

/-- Payload length field of a packet's second word. -/
def lengthField (w : Word) : Nat :=
  (loByte w).toNat

/-- The scan of R18 from a word where, after `skip` more words of the packet in progress, a packet could begin: the packets
found, and whether the scan stopped at a packet running past the line end. -/
def scanFrom : Nat → List Word → List (List Word) × Bool
  | _, [] => ([], false)
  | skip + 1, _ :: ws => scanFrom skip ws
  | 0, w :: ws =>
    if w = leadWord then
      match ws with
      | [] => ([], true)
      | kl :: _ =>
        if ws.length < lengthField kl + 2 then ([], true)
        else
          let found := scanFrom (lengthField kl + 2) ws
          ((w :: ws).take (lengthField kl + 3) :: found.1, found.2)
    else scanFrom 0 ws

/-- The scan of a line's blanking space (R18). -/
def scanLine (blanking : List Word) : List (List Word) × Bool :=
  scanFrom 0 blanking

/-- A packet's kind byte. -/
def packetKind (p : List Word) : Byte :=
  hiByte (p.getD 1 0)

/-- A packet's payload: its words between the kind and length word and the check word. -/
def packetPayload (p : List Word) : List Word :=
  (p.drop 2).take (p.length - 3)

/-- Grades of a sound group packet. -/
inductive Grade where
  | full | compact
  deriving DecidableEq, Repr

/-- What a kind byte names (R20). -/
inductive PacketClass where
  | sound (group : GroupIx) (grade : Grade)
  | frameMark
  | request
  | reply
  | foreign
  deriving DecidableEq, Repr

/-- The kinds of R20; every other kind is foreign. -/
def packetClass (kind : Byte) : PacketClass :=
  match kind.toNat with
  | 0x41 => .sound 0 .full
  | 0x42 => .sound 1 .full
  | 0x43 => .sound 2 .full
  | 0x44 => .sound 3 .full
  | 0x49 => .sound 0 .compact
  | 0x4A => .sound 1 .compact
  | 0x4B => .sound 2 .compact
  | 0x4C => .sound 3 .compact
  | 0x50 => .frameMark
  | 0x5A => .request
  | 0x5B => .reply
  | _ => .foreign

/-- The kind byte of a sound group packet (R20, R111). -/
def soundKind (g : GroupIx) : Grade → Byte
  | .full => BitVec.ofNat 8 (0x41 + g.val)
  | .compact => BitVec.ofNat 8 (0x49 + g.val)

/-- Words per sample of a grade (R111): 2 for full, 1 for compact. -/
def gradeWords : Grade → Nat
  | .full => 2
  | .compact => 1

/-! ### Samples (R21 to R23) -/

/-- First word of a full grade pair: bits 23 to 8. -/
def pairHigh (v : Sample) : Word :=
  v.extractLsb' 8 16

/-- Second word of a full grade pair: bits 7 to 0, then the flags byte with V in bit 0 (R22). -/
def pairLow (v : Sample) (valid : Bool) : Word :=
  bytes (v.extractLsb' 0 8) (if valid then 1 else 0)

/-- A full grade word pair (R22). -/
def fullPair (o : OutSample) : List Word :=
  [pairHigh o.value, pairLow o.value o.valid]

/-- The value stored from a full grade pair: 0 when V is clear (R22, R37). -/
def readPair (hi lo : Word) : Sample :=
  if lo.getLsbD 0 then hi ++ hiByte lo else 0

/-- A compact grade word: sign, code, V (R23, R100). -/
def compactWord (o : OutSample) : Word :=
  toWord (bitNat (o.value.getLsbD 23) * 32768 + compactCode (scaledMagnitude o.value) * 16 + bitNat o.valid)

/-- The value stored from a compact grade word: 0 when V is clear (R23, R37). -/
def readCompact (w : Word) : Sample :=
  if w.getLsbD 0 then expandSample (w.getLsbD 15) (field w 4 11) else 0

/-- The words of one sample in a grade. -/
def sampleWords (grade : Grade) (o : OutSample) : List Word :=
  match grade with
  | .full => fullPair o
  | .compact => [compactWord o]

/-- The attribute word: cadence phase in bits 6 to 4, m in bits 2 to 0 (R21). -/
def attributeWord (phase m : Nat) : Word :=
  toWord (phase * 16 + m)

/-- The payload of a sound group packet: the attribute word, then the samples in time order, tracks interleaved (R21). -/
def soundPayload (grade : Grade) (phase : Nat) (instants : List Instant) : List Word :=
  attributeWord phase instants.length :: instants.flatMap fun i => i.toList.flatMap (sampleWords grade)

/-- The m field of a payload's attribute word; 0 for an empty payload. -/
def fieldM (payload : List Word) : Nat :=
  field (payload.getD 0 0) 0 3

/-- Sample number k of a sound payload, as it is stored (R21, R37). -/
def payloadSample (grade : Grade) (payload : List Word) (k : Nat) : Sample :=
  match grade with
  | .full => readPair (payload.getD (1 + 2 * k) 0) (payload.getD (2 + 2 * k) 0)
  | .compact => readCompact (payload.getD (1 + k) 0)

/-- The samples of track t of a sound payload in time order: numbers 4i + t (R21). -/
def trackSamples (grade : Grade) (payload : List Word) (t : Fin 4) : List Sample :=
  (List.range (fieldM payload)).map fun i => payloadSample grade payload (4 * i + t.val)

/-! ### Port words and bundles (R28 to R30) -/

/-- How a marker is read: by its code alone; 0 and 4 to 15 are ERROR END (R28). -/
inductive Marker where
  | start (channel : Nat)
  | finish
  | errorEnd
  deriving DecidableEq, Repr

/-- A marker's data bits read by R28: code in bits 3 to 0, the channel code of a START in bits 10 to 8. -/
def readMarker (w : Word) : Marker :=
  match field w 0 4 with
  | 1 => .start (field w 8 3)
  | 2 => .finish
  | _ => .errorEnd

/-- START with a channel code. -/
def startWord (channel : Nat) : PortWord :=
  ⟨true, toWord (channel * 256 + 1)⟩

/-- END. -/
def endWord : PortWord := ⟨true, 2⟩

/-- ERROR END. -/
def errorEndWord : PortWord := ⟨true, 3⟩

/-- A data word. -/
def dataWord (w : Word) : PortWord := ⟨false, w⟩

/-- The header word: bundle count, sample count n (02, Bundle layout). -/
def headerWord (count : Byte) (n : Nat) : Word :=
  bytes count (BitVec.ofNat 8 n)

/-- The sound bundle of a channel: START, header with n = 16, 16 instants of tracks 0 to 7, END (R134). -/
def soundBundle (channel : ChanIx) (count : Byte) (samples : List OutSample) : List PortWord :=
  startWord channel.val :: dataWord (headerWord count 16) :: (samples.flatMap fullPair).map dataWord ++ [endWord]

/-- The control bundle that carries a reply (R135). -/
def controlBundle (payload : List Word) : List PortWord :=
  startWord 7 :: dataWord 0 :: payload.map dataWord ++ [endWord]

/-- The samples of track t of a sound bundle's body, as they are stored: numbers 8i + t (R29). -/
def bodySamples (n : Nat) (body : List Word) (t : Fin 8) : List Sample :=
  (List.range n).map fun i => readPair (body.getD (2 * (8 * i + t.val)) 0) (body.getD (2 * (8 * i + t.val) + 1) 0)

/-! ### Parameter words (02, Parameter words) -/

/-- A route entry's flags word, with its candidate count. -/
def flagsWord (e : RouteEntry) : Word :=
  toWord (bitNat e.enabled + 2 * bitNat e.invert + 4 * bitNat e.mute + 8 * bitNat (decide (e.absenceFill = .hold))
    + 16 * bitNat e.silenceWatch + 32 * bitNat (decide (e.policy = .latched)) + 256 * e.candidates.length)

/-- A route entry's codes word. -/
def codesWord (e : RouteEntry) : Word :=
  toWord (e.failCode.val + 16 * e.revertCode.val)

/-- A delay brought into 128 to 6000 (R152). -/
def clampDelay (d : Nat) : Nat :=
  max 128 (min 6000 d)

/-- The entry of a SET ROUTE's words, its delay clamped (R152). -/
def readEntry (flags codes gain delay : Word) (candidates : List SourceIx) : RouteEntry where
  enabled := flags.getLsbD 0
  candidates := candidates
  gain := gain
  invert := flags.getLsbD 1
  mute := flags.getLsbD 2
  delay := clampDelay delay.toNat
  absenceFill := if flags.getLsbD 3 then .hold else .silence
  silenceWatch := flags.getLsbD 4
  failCode := ⟨field codes 0 3, Nat.mod_lt _ (by decide)⟩
  revertCode := ⟨field codes 4 3, Nat.mod_lt _ (by decide)⟩
  policy := if flags.getLsbD 5 then .latched else .auto

/-- The candidate count field of a flags word. -/
def countField (flags : Word) : Nat :=
  field flags 8 3

/-- Candidate words as source indices; none when a word is above 191 (R152). -/
def readCandidates : List Word → Option (List SourceIx)
  | [] => some []
  | w :: ws =>
    if h : w.toNat < 192 then (readCandidates ws).map (⟨w.toNat, h⟩ :: ·) else none

/-- A group mode's two bits. -/
def modeCode : GroupMode → Nat
  | .pass => 0
  | .strip => 1
  | .embedFull => 2
  | .embedCompact => 3

/-- A group mode from its two bits. -/
def readMode (c : Nat) : GroupMode :=
  match c with
  | 0 => .pass
  | 1 => .strip
  | 2 => .embedFull
  | _ => .embedCompact

/-- A lane plan's word A. -/
def lanePlanA (p : LanePlan) : Word :=
  toWord (modeCode p.modes[0] + 4 * modeCode p.modes[1] + 16 * modeCode p.modes[2] + 64 * modeCode p.modes[3])

/-- A lane plan's budget word: 0 for absent. -/
def lanePlanB (p : LanePlan) : Word :=
  toWord (p.budget.getD 0)

/-- A budget word latched: 0 is absent, otherwise brought into 32 to 256 (R153). -/
def readBudget (b : Word) : Option Nat :=
  if b = 0 then none else some (max 32 (min 256 b.toNat))

/-- A lane plan from SET PLAN's words (R153). -/
def readLanePlan (a b : Word) : LanePlan where
  modes := four fun g => readMode (field a (2 * g.val) 2)
  budget := readBudget b

/-- A port plan's word A. -/
def portPlanA (p : PortPlan) : Word :=
  toWord (bitNat p.channels[0] + 2 * bitNat p.channels[1] + 4 * bitNat p.channels[2] + 8 * bitNat p.channels[3])

/-- A port plan's word B: bit 3 for internal, else the lane (bits 2 to 0 are 0 beside bit 3; log entry 17). -/
def portPlanB (p : PortPlan) : Word :=
  match p.clock with
  | .lane n => toWord n.val
  | .station => 8

/-- A port plan from SET PLAN's words (R153). -/
def readPortPlan (a b : Word) : PortPlan where
  channels := four fun c => a.getLsbD c.val
  clock := if b.getLsbD 3 then .station else .lane ⟨field b 0 3, Nat.mod_lt _ (by decide)⟩

/-- The reference word: role, reference lane. -/
def referenceWord (role : Role) (lane : LaneIx) : Word :=
  toWord (bitNat (decide (role = .follower)) + 256 * lane.val)

/-- The role of a reference word. -/
def readRole (w : Word) : Role :=
  if w.getLsbD 0 then .follower else .leader

/-- The reference lane of a reference word. -/
def readRefLane (w : Word) : LaneIx :=
  ⟨field w 8 3, Nat.mod_lt _ (by decide)⟩

/-! ### Replies (R26, R27) -/

/-- Status codes (R26). -/
inductive Status where
  | done | adjusted | applied | noTake | takeHeld | outOfScope | pending | badEntry | badRequest | empty
  deriving DecidableEq, Repr

/-- The value of a status code (R26). -/
def statusCode : Status → Byte
  | .done => 0x00
  | .adjusted => 0x01
  | .applied => 0x02
  | .noTake => 0x10
  | .takeHeld => 0x11
  | .outOfScope => 0x12
  | .pending => 0x13
  | .badEntry => 0x14
  | .badRequest => 0x15
  | .empty => 0x16

/-- The strapped unit address as a byte. -/
def addressByte (u : BitVec 7) : Byte :=
  u.zeroExtend 8

/-- A reply's payload: address and status, tag, kind, data (R26). -/
def replyPayload (u : BitVec 7) (status : Status) (tag : Word) (kind : Byte) (data : List Word) : List Word :=
  bytes (statusCode status) (addressByte u) :: tag :: bytes 0 kind :: data

/-- A read or write count in reply data: bits 23 to 16 in a low byte, then bits 15 to 0 (R27). -/
def countWords (c : Count) : List Word :=
  [bytes 0 (c.extractLsb' 16 8), c.extractLsb' 0 16]

/-- A sample in reply data: a full grade pair with the flags byte 0 (R27). -/
def replySample (v : Sample) : List Word :=
  [pairHigh v, pairLow v false]

/-- An index that can be none, as a word (R27). -/
def optionWord : Option Nat → Word
  | some n => toWord n
  | none => 0xFFFF

/-- An index that can be none, as a byte (R27). -/
def optionByte : Option Nat → Byte
  | some n => BitVec.ofNat 8 n
  | none => 0xFF

/-- READ ROUTE data (R27). -/
def routeData (d : DestIx) (e : RouteEntry) : List Word :=
  [toWord d.val, flagsWord e, codesWord e, e.gain, toWord e.delay] ++ e.candidates.map fun c => toWord c.val

/-- State codes of a live record (R27). -/
def destStateCode : DestState → Byte
  | .idle => 0
  | .parked => 1
  | .active => 2
  | .filling => 3

/-- The source stream that is current, if the current stream is one. -/
def LiveRecord.sourceStream (r : LiveRecord) : Option SourceStream :=
  match r.current with
  | some (.source x) => some x
  | _ => none

/-- The stream word: bit 0 invert, bit 1 mute, bit 2 fill HOLD, bit 3 the current stream is a fill stream (DEDUCED, log
entry 7), bit 4 an old stream is held (R27). -/
def streamWord (r : LiveRecord) : Word :=
  toWord ((match r.current with
    | some (.source x) => bitNat x.invert + 2 * bitNat x.mute
    | some (.fill .silence) => 8
    | some (.fill (.hold _)) => 12
    | none => 0) + 16 * bitNat r.old.isSome)

/-- READ ROUTE STATE data (R27, R68, R89). -/
def routeStateData (d : DestIx) (r : LiveRecord) : List Word :=
  [toWord d.val, bytes (optionByte r.active) (destStateCode r.state),
    optionWord (r.sourceStream.map fun x => x.source.val)]
  ++ countWords ((r.sourceStream.map SourceStream.readCount).getD 0)
  ++ [streamWord r, (r.sourceStream.map SourceStream.gain).getD 0, toWord r.fade]
  ++ replySample r.lastOut
  ++ [r.counters.failovers, r.counters.reverts, r.counters.realigns, r.counters.reseats, r.counters.starves,
    r.counters.laps]

/-- READ SOURCE data (R27, R63). -/
def sourceData (i : SourceIx) (x : Source) : List Word :=
  [toWord i.val, toWord x.silenceLevel,
    toWord (bitNat x.present + 2 * bitNat x.blockLoud + 256 * x.blockPosition)]
  ++ countWords x.writeCount ++ [toWord x.validSpan] ++ replySample x.lastSample
  ++ [toWord x.silentRun, toWord x.activeRun, toWord x.presentRun, toWord x.peak, x.dropped, x.gaps]

/-- Input state codes (R27). -/
def inputStateCode : InputState → Byte
  | .noSignal => 0
  | .acquiring => 1
  | .locked => 2

/-- Format codes (R27). -/
def formatCode : Format → Nat
  | .f23 => 0
  | .f24 => 1
  | .f25 => 2
  | .f29 => 3
  | .f30 => 4
  | .f50 => 5
  | .f59 => 6
  | .f60 => 7

/-- The budget in force of a LOCKED lane: the plan's, or the format's default (R12). -/
def budgetInForce (l : Lane) : Nat :=
  match l.plan.budget with
  | some b => b
  | none => (l.format.map formatBudget).getD 0

/-- READ LANE data (R27, R167): budget in force 0 when not LOCKED. -/
def laneData (n : LaneIx) (l : Lane) : List Word :=
  [toWord n.val, bytes (optionByte (l.format.map formatCode)) (inputStateCode l.inputState), lanePlanA l.plan,
    lanePlanB l.plan, if l.inputState = .locked then toWord (budgetInForce l) else 0,
    toWord (l.rotation.val + 256 * bitNat (decide (l.replyTurn = .after))),
    toWord (l.queues[0].length + 16 * l.queues[1].length + 256 * l.queues[2].length + 4096 * l.queues[3].length),
    l.counters.malformed, l.counters.damaged, l.counters.displaced]
  ++ l.counters.overrun.toList ++ [l.counters.slips, l.counters.discardedReplies]

/-- Transmit state codes (R27). -/
def transmitCode : TransmitState → Nat
  | .disabled => 0
  | .running => 1
  | .stalled => 2

/-- Clock word: 0 to 7 a lane, 8 the station clock (R27). -/
def clockWord : Clock → Word
  | .lane n => toWord n.val
  | .station => 8

/-- READ PORT data (R27, R121); `present c` says whether channel c is present. -/
def portData (p : PortIx) (x : Port) (present : ChanIx → Bool) : List Word :=
  [toWord p.val, toWord (bitNat x.receiveEnable + 256 * transmitCode x.transmit), portPlanA x.plan, portPlanB x.plan,
    clockWord x.clock, toWord x.inFifo.length, toWord x.outFifo.length,
    toWord (bitNat (present 0) + 2 * bitNat (present 1) + 4 * bitNat (present 2) + 8 * bitNat (present 3)),
    bytes 0 x.nextCount, x.counters.discarded, x.counters.truncated, x.counters.skipped, x.counters.fallbacks]

/-- The phase a lane writes and reports: P in a fractional format when LOCKED, else 7 (R146). -/
def phaseField (l : Lane) (phase : Fin 5) : Nat :=
  if l.inputState = .locked ∧ (l.format.map formatFractional).getD false then phase.val else 7

/-- READ REFERENCE data (R27, R138). -/
def referenceData (s : State) : List Word :=
  let phase (n : LaneIx) := phaseField s.lanes[n] s.ref.phase[n]
  let due (n : LaneIx) := bitNat s.ref.pendingMark[n].isSome
  [toWord s.ref.count.val, referenceWord s.ref.role s.ref.refLane, bytes s.ref.markOut s.ref.markIn,
    toWord (due 0 + 2 * due 1 + 4 * due 2 + 8 * due 3 + 16 * due 4 + 32 * due 5 + 64 * due 6 + 128 * due 7),
    toWord (phase 0 + 16 * phase 1 + 256 * phase 2 + 4096 * phase 3),
    toWord (phase 4 + 16 * phase 5 + 256 * phase 6 + 4096 * phase 7),
    s.ref.inStep, s.ref.jumps, s.ref.invalid, s.ref.ignored]

/-- READ TAKE data (R27, R149). -/
def takeData (s : State) : List Word :=
  let depth (i : Iface) := s.undo[i].length
  [(match s.take with
    | none => bytes 0xFF 0
    | some t => bytes (BitVec.ofNat 8 t.scope.val) (if t.state = .opened then 1 else 2)),
    optionWord (s.take.map fun t => t.owner.val),
    (match s.take with
    | none => 0
    | some t => toWord (t.latches.length + 256 * bitNat t.plan.isSome)),
    toWord (depth 0 + 16 * depth 1 + 256 * depth 2 + 4096 * depth 3),
    toWord (depth 4 + 16 * depth 5 + 256 * depth 6 + 4096 * depth 7),
    toWord (depth 8 + 16 * depth 9)]

/-- The strap word (R27). -/
def strapWord (x : Straps) : Word :=
  toWord (x.unitAddress.toNat + 256 * bitNat (decide (x.role = .follower)) + 512 * x.refLane.val)

/-- READ DEVICE data (R27, R171). -/
def deviceData (s : State) : List Word :=
  [strapWord s.straps, s.unanswered, s.droppedApplied]

end Sys2Proof.Machine
end

