-- ==== Sys2Proof/Machine/Flags.lean ====
section
/-! DEFINITION. The tests and flags of the manual: well-formedness of packets, loudness, presence of a channel, candidate
tests, whether a mark is due, whether an output side runs. -/

namespace Sys2Proof.Machine

/-- The further condition of a packet's kind (R20). -/
def kindCondition (c : PacketClass) (payload : List Word) : Bool :=
  match c with
  | .sound _ grade =>
    decide (1 ≤ payload.length ∧ 1 ≤ fieldM payload ∧ fieldM payload ≤ 4
      ∧ payload.length = 1 + 4 * gradeWords grade * fieldM payload)
  | .frameMark => decide (payload.length = 1)
  | .request => decide (2 ≤ payload.length)
  | .reply => decide (3 ≤ payload.length)
  | .foreign => true

/-- A well-formed packet: right check word (R19) and the condition of its kind (R20). -/
def packetGood (p : List Word) : Bool :=
  decide (wordSum p = 0) && kindCondition (packetClass (packetKind p)) (packetPayload p)

/-- How many samples per track a damaged sound group packet is counted for (R35). -/
def damageAmount (payload : List Word) : Nat :=
  if 1 ≤ payload.length ∧ 1 ≤ fieldM payload ∧ fieldM payload ≤ 4 then fieldM payload else 1

/-- A loud sample: its scaled magnitude exceeds the silence level (R54). -/
def isLoud (level : Nat) (v : Sample) : Bool :=
  decide (level < scaledMagnitude v)

/-- The threshold of a fail or revert code in silence blocks (R67). -/
def codeThreshold (c : Fin 8) : Nat :=
  if c = 0 then 512 else 64 * c.val

/-- A candidate is usable (R71). -/
def usable (e : RouteEntry) (x : Source) : Bool :=
  x.present && (!e.silenceWatch || decide (x.silentRun < codeThreshold e.failCode))

/-- A candidate is ready to revert (R72). -/
def readyToRevert (e : RouteEntry) (x : Source) : Bool :=
  usable e x && decide (codeThreshold e.revertCode ≤ if e.silenceWatch then x.activeRun else x.presentRun)

/-- EMBED FULL and EMBED COMPACT (R10). -/
def embeds : GroupMode → Bool
  | .embedFull => true
  | .embedCompact => true
  | _ => false

/-- The grade of an EMBED mode (R111). -/
def modeGrade : GroupMode → Grade
  | .embedCompact => .compact
  | _ => .full

/-- A channel of a port is present when its eight sources are (R121). -/
def channelPresent (s : State) (p : PortIx) (c : ChanIx) : Bool :=
  (List.finRange 8).all fun t => (s.sources[portTrack p c t]).present

/-- Membership of a set of lanes. -/
def inSet (set : BitVec 8) (n : LaneIx) : Bool :=
  set.getLsbD n.val

/-- Whether a frame mark is due at line 0 of a lane, and its count (R144). -/
def markDue (r : Reference) (n : LaneIx) : Option (Fin 60000) :=
  match r.role with
  | .leader => if inSet r.markOut n then some r.count else none
  | .follower => r.pendingMark[n]

/-- Whether a destination's output side runs (R83, R84). -/
def outputRuns (s : State) (d : DestIx) : Bool :=
  match trackPlace d with
  | .lane n => (s.lanes[n]).running[trackGroup d]
  | .port p => (s.ports[p]).running[trackChannel d]

end Sys2Proof.Machine
end

