-- ==== Sys2Proof/Machine/Sources.lean ====
section
/-! DEFINITION. The source record: append, silence blocks, presence, reset (04). -/

namespace Sys2Proof.Machine

/-- A completed block's effect on the runs (R55). -/
def completeBlock (x : Source) (loud : Bool) : Source :=
  { x with
    blockPosition := 0
    blockLoud := false
    activeRun := if loud then min 512 (x.activeRun + 1) else 0
    silentRun := if loud then 0 else min 512 (x.silentRun + 1)
    presentRun := min 512 (x.presentRun + 1) }

/-- The silence accounting of one append: only while the source is present (R54). -/
def countBlock (x : Source) (v : Sample) : Source :=
  if x.present then
    if x.blockPosition + 1 = 64 then completeBlock x (x.blockLoud || isLoud x.silenceLevel v)
    else { x with
      blockPosition := x.blockPosition + 1
      blockLoud := x.blockLoud || isLoud x.silenceLevel v }
  else x

/-- The part of an append that is taken present or absent: buffer, counts, last sample, peak (R52, R53). -/
def storeSample (x : Source) (v : Sample) : Source :=
  { x with
    buffer := Memory.write x.buffer (x.writeCount.toNat % 8192) v
    writeCount := x.writeCount + 1
    lastSample := v
    validSpan := min 8192 (x.validSpan + 1)
    peak := max x.peak (scaledMagnitude v) }

/-- One append, taken whole (R52 to R55). -/
def appendSample (x : Source) (v : Sample) : Source :=
  countBlock (storeSample x v) v

/-- Appends in time order. -/
def appendSamples (x : Source) (vs : List Sample) : Source :=
  vs.foldl appendSample x

/-- A report of presence (R59). -/
def becomePresent (x : Source) : Source :=
  if x.present then x
  else { x with
    present := true
    silentRun := 0
    activeRun := 0
    presentRun := 0
    blockPosition := 0
    blockLoud := false }

/-- A report of absence (R60). -/
def becomeAbsent (x : Source) : Source :=
  if x.present then
    { x with
      present := false
      silentRun := 0
      activeRun := 0
      presentRun := 0
      blockPosition := 0
      blockLoud := false
      validSpan := 0 }
  else { x with validSpan := 0 }

/-- RESET UNIT on a source: the silence level and the buffer contents are kept (R65). -/
def resetSource (x : Source) : Source :=
  { Source.powerOn with
    silenceLevel := x.silenceLevel
    buffer := x.buffer }

/-- CLEAR COUNTERS on a source (R64). -/
def clearSourceCounters (x : Source) : Source :=
  { x with
    dropped := 0
    gaps := 0 }

/-- The sources of a lane become absent (R15). -/
def absentLane (n : LaneIx) (s : State) : State :=
  s.updateSources fun i x => if trackPlace i = .lane n then becomeAbsent x else x

/-- The sources of a port become absent (R128). -/
def absentPort (p : PortIx) (s : State) : State :=
  s.updateSources fun i x => if trackPlace i = .port p then becomeAbsent x else x

/-- A change of the eight sources of a port channel. -/
def updateChannel (p : PortIx) (c : ChanIx) (f : Fin 8 → Source → Source) (s : State) : State :=
  s.updateSources fun i x =>
    if trackPlace i = .port p ∧ trackChannel i = c then f ⟨i.val % 8, Nat.mod_lt _ (by decide)⟩ x else x

/-- A change of the four sources of a lane group. -/
def updateGroup (n : LaneIx) (g : GroupIx) (f : Fin 4 → Source → Source) (s : State) : State :=
  s.updateSources fun i x =>
    if trackPlace i = .lane n ∧ trackGroup i = g then f ⟨i.val % 4, Nat.mod_lt _ (by decide)⟩ x else x

end Sys2Proof.Machine
end

