-- ==== Sys2Proof/Machine/Routes.lean ====
section
/-! DEFINITION. The destination engine (05): streams, crossfades, re-seats, the frame-start check, reads, parking, and what
a live record does when its committed entry is replaced. -/

namespace Sys2Proof.Machine

/-! ### Streams (R69, R70, R78) -/

/-- Fill of a source stream: write count minus read count, modulo 16777216 (R57). -/
def streamFill (x : Source) (st : SourceStream) : Nat :=
  (x.writeCount - st.readCount).toNat

/-- A source stream made now, with these parameters (R69). -/
def makeStream (i : SourceIx) (readCount : Count) (gain : Word) (invert mute : Bool) : Stream :=
  .source {
    source := i
    readCount := readCount
    gain := gain
    invert := invert
    mute := mute
    lastYield := none }

/-- The stream of a re-seat onto a source: D behind its write count, with the entry's gain, invert and mute (R78). -/
def seatedStream (sources : Vector Source 192) (e : RouteEntry) (i : SourceIx) : Stream :=
  makeStream i ((sources[i]).writeCount - BitVec.ofNat 24 e.delay) e.gain e.invert e.mute

/-- A fill stream for absence fill, made now (R69). -/
def absenceStream (e : RouteEntry) (lastOut : Sample) : FillStream :=
  match e.absenceFill with
  | .silence => .silence
  | .hold => .hold lastOut

/-- A crossfade to a new stream, whether or not a fade is in flight; a current stream of none counts as silence (R70). -/
def crossfade (r : LiveRecord) (new : Stream) : LiveRecord :=
  { r with
    old := some (r.current.getD (.fill .silence))
    current := some new
    fade := 0 }

/-- The re-seats counter raised by one. -/
def countReseat (r : LiveRecord) : LiveRecord :=
  { r with counters := { r.counters with reseats := raise r.counters.reseats 1 } }

/-- A re-seat onto candidate `a`, source `i`: the record becomes ACTIVE on it (R74, R75, R76, R78). -/
def reseat (sources : Vector Source 192) (e : RouteEntry) (a : Nat) (i : SourceIx) (r : LiveRecord) : LiveRecord :=
  countReseat { crossfade r (seatedStream sources e i) with
    state := .active
    active := some a }

/-- A re-seat caused by a lap of a stream on source `i`: it fades from a HOLD fill of the last output sample, and an old
stream in flight is dropped (R78). -/
def lapReseat (sources : Vector Source 192) (e : RouteEntry) (i : SourceIx) (r : LiveRecord) : LiveRecord :=
  countReseat { r with
    old := some (.fill (.hold r.lastOut))
    current := some (seatedStream sources e i)
    fade := 0
    counters := { r.counters with laps := raise r.counters.laps 1 } }

/-! ### Candidate selection (R71, R72) -/

/-- The first candidate, from index i on, that passes a test, with its index. -/
def pick (p : Nat → SourceIx → Bool) : Nat → List SourceIx → Option (Nat × SourceIx)
  | _, [] => none
  | i, c :: cs => if p i c then some (i, c) else pick p (i + 1) cs

/-- The most preferred usable candidate. -/
def mostPreferred (sources : Vector Source 192) (e : RouteEntry) : Option (Nat × SourceIx) :=
  pick (fun _ c => usable e sources[c]) 0 e.candidates

/-- The most preferred usable candidate other than `a` (R75). -/
def fallback (sources : Vector Source 192) (e : RouteEntry) (a : Nat) : Option (Nat × SourceIx) :=
  pick (fun i c => decide (i ≠ a) && usable e sources[c]) 0 e.candidates

/-- The most preferred candidate before `a` that is ready to revert (R76). -/
def revertTarget (sources : Vector Source 192) (e : RouteEntry) (a : Nat) : Option (Nat × SourceIx) :=
  pick (fun i c => decide (i < a) && readyToRevert e sources[c]) 0 e.candidates

/-- Whether the active candidate is usable at the check. -/
def activeUsable (sources : Vector Source 192) (e : RouteEntry) (a : Nat) : Bool :=
  match e.candidates[a]? with
  | some c => usable e sources[c]
  | none => false

/-! ### The frame-start check (R73 to R77) -/

/-- FILLING without a fade (R74 step 4, R86). A HOLD value is the record's last output sample (R69), which is 0 for a PARKED
record and for an IDLE one without a fade (R85, R98). -/
def fillUnfaded (e : RouteEntry) (r : LiveRecord) : LiveRecord :=
  { r with
    state := .filling
    active := none
    current := some (.fill (absenceStream e r.lastOut))
    old := none
    fade := 32 }

/-- FILLING by a crossfade to a new fill stream (R75, R86, R87). -/
def fillFaded (e : RouteEntry) (r : LiveRecord) : LiveRecord :=
  { crossfade r (.fill (absenceStream e r.lastOut)) with
    state := .filling
    active := none }

/-- The start path of a destination whose output side runs (R74, R86). A FILLING one that finds nothing is unchanged; an
IDLE one whose fade to silence is in flight fades on into the fill stream, and one without a fade fills unfaded (R86). -/
def start (sources : Vector Source 192) (e : RouteEntry) (r : LiveRecord) : LiveRecord :=
  match mostPreferred sources e with
  | some (a, i) => reseat sources e a i r
  | none =>
    match r.state with
    | .filling => r
    | _ => if r.fade < 32 then fillFaded e r else fillUnfaded e r

/-- Failover of an ACTIVE destination whose candidate `a` is not usable (R75). -/
def failover (sources : Vector Source 192) (e : RouteEntry) (a : Nat) (r : LiveRecord) : LiveRecord :=
  let r := { r with counters := { r.counters with failovers := raise r.counters.failovers 1 } }
  match fallback sources e a with
  | some (b, i) => reseat sources e b i r
  | none => fillFaded e r

/-- e = fill − D as a signed value (R77). -/
def drift (fill delay : Nat) : Int :=
  (fill : Int) - delay

/-- Drift within −64 to 64 is left as it is (R77). -/
def driftAllowed (fill delay : Nat) : Bool :=
  decide (-64 ≤ drift fill delay ∧ drift fill delay ≤ 64)

/-- A realign to a new source stream whose read count has moved by e (R77, R87). -/
def realign (x : Source) (delay : Nat) (st : SourceStream) (gain : Word) (invert mute : Bool) (r : LiveRecord) :
    LiveRecord :=
  let moved := st.readCount + BitVec.ofInt 24 (drift (streamFill x st) delay)
  { crossfade r (makeStream st.source moved gain invert mute) with
    counters := { r.counters with realigns := raise r.counters.realigns 1 } }

/-- The drift test of an ACTIVE destination reading `st` (R77). -/
def driftTest (sources : Vector Source 192) (e : RouteEntry) (st : SourceStream) (r : LiveRecord) : LiveRecord :=
  let x := sources[st.source]
  if 8191 < streamFill x st then lapReseat sources e st.source r
  else if driftAllowed (streamFill x st) e.delay then r
  else realign x e.delay st st.gain st.invert st.mute r

/-- What an ACTIVE destination's check does after a usable candidate `a`: revert, else the drift test (R76, R77). -/
def revertOrDrift (sources : Vector Source 192) (e : RouteEntry) (a : Nat) (r : LiveRecord) : LiveRecord :=
  match (if e.policy = .auto then revertTarget sources e a else none) with
  | some (b, i) =>
    reseat sources e b i { r with counters := { r.counters with reverts := raise r.counters.reverts 1 } }
  | none =>
    match r.sourceStream with
    | some st => driftTest sources e st r
    | none => r

/-- The frame-start check of one destination (R73): `running` says whether its output side runs. -/
def check (sources : Vector Source 192) (e : RouteEntry) (running : Bool) (r : LiveRecord) : LiveRecord :=
  match r.state with
  | .idle => r
  | .parked => if running then start sources e r else r
  | .filling => start sources e r
  | .active =>
    let a := r.active.getD 0
    if activeUsable sources e a then revertOrDrift sources e a r else failover sources e a r

/-! ### Reads (R79 to R82, R91 to R98) -/

/-- What a stream yields at a read: the stream as the read leaves it, its stage 3 value, V, and whether it starved. -/
structure Yield where
  stream : Option Stream
  value : Sample
  valid : Bool
  starved : Bool
  deriving DecidableEq, Repr

/-- The absence fill value of a starved read (R80, R98). -/
def absenceValue (e : RouteEntry) (lastOut : Sample) : Sample :=
  match e.absenceFill with
  | .silence => 0
  | .hold => lastOut

/-- The stored sample at a stream's position: 0 outside the valid span (R57, R80 cases 3 and 4). -/
def storedSample (x : Source) (st : SourceStream) : Sample :=
  if x.validSpan < streamFill x st then 0 else Memory.read x.buffer (st.readCount.toNat % 8192)

/-- A source stream's read with fill at most 8191: starved at fill 0, else its sample through stages 2 and 3 (R80, R92
to R95). -/
def yieldSource (x : Source) (e : RouteEntry) (lastOut : Sample) (st : SourceStream) : Yield :=
  if streamFill x st = 0 then
    { stream := some (.source { st with lastYield := some (absenceValue e lastOut) })
      value := absenceValue e lastOut
      valid := false
      starved := true }
  else
    let v := gainAndMute st.gain st.mute (polarity st.invert (storedSample x st))
    { stream := some (.source { st with readCount := st.readCount + 1, lastYield := some v })
      value := v
      valid := true
      starved := false }

/-- A fill stream's value (R69). -/
def fillValue : FillStream → Sample
  | .silence => 0
  | .hold v => v

/-- A fill stream's read (R92). -/
def yieldFill (f : FillStream) : Yield where
  stream := some (.fill f)
  value := fillValue f
  valid := false
  starved := false

/-- The current stream's read, after the lap test; no stream yields 0 with V clear (R79, R92). -/
def yieldCurrent (sources : Vector Source 192) (e : RouteEntry) (r : LiveRecord) : Yield :=
  match r.current with
  | some (.source st) => yieldSource sources[st.source] e r.lastOut st
  | some (.fill f) => yieldFill f
  | none => { stream := none, value := 0, valid := false, starved := false }

/-- The hold value of an old stream at its lap: the last value it yielded, or a free value when it yielded none (R81,
R92; log entry 6). -/
def lapHold (st : SourceStream) : Sample :=
  st.lastYield.getD (Config.unyieldedHold st.source.val st.readCount)

/-- The old stream's read: lapped, it becomes a HOLD fill; otherwise as R80 without counting (R81). An absent source's stream
goes by the same cases, so at fill 0 it yields the absence fill and not the 0 of R81's last sentence (DESIGN CHOICE, log
entry 34). -/
def yieldOld (sources : Vector Source 192) (e : RouteEntry) (r : LiveRecord) : Yield :=
  match r.old with
  | some (.source st) =>
    if 8191 < streamFill sources[st.source] st then yieldFill (.hold (lapHold st))
    else yieldSource sources[st.source] e r.lastOut st
  | some (.fill f) => yieldFill f
  | none => yieldFill .silence

/-- R80 case 1: a lapped current stream is re-seated at once. -/
def lapIfLapped (sources : Vector Source 192) (e : RouteEntry) (r : LiveRecord) : LiveRecord :=
  match r.sourceStream with
  | some st => if 8191 < streamFill sources[st.source] st then lapReseat sources e st.source r else r
  | none => r

/-- The last output sample that a faded read leaves: the faded sample (R82), but 0 where the fade to silence of an IDLE
destination ends with it (R98, R86; log entry 30). -/
def lastFaded (r : LiveRecord) (out : Sample) : Sample :=
  if r.state = .idle ∧ r.fade + 1 = 32 then 0 else out

/-- The read of a record that is not PARKED, after the lap test: stages 1 to 4 (R91, R96). -/
def readStages (sources : Vector Source 192) (e : RouteEntry) (r : LiveRecord) : LiveRecord × OutSample :=
  let cur := yieldCurrent sources e r
  let counters := { r.counters with starves := raise r.counters.starves (bitNat cur.starved) }
  if r.fade < 32 then
    let old := yieldOld sources e r
    let out := blend r.fade old.value cur.value
    ({ r with
        current := cur.stream
        old := if r.fade + 1 = 32 then none else old.stream
        fade := r.fade + 1
        lastOut := lastFaded r out
        counters := counters },
      ⟨out, old.valid || cur.valid⟩)
  else
    ({ r with
        current := cur.stream
        lastOut := cur.value
        counters := counters },
      ⟨cur.value, cur.valid⟩)

/-- One read of a destination (R79). A PARKED destination does not read; in a running group or channel there is none
(log entry 21). -/
def readOnce (sources : Vector Source 192) (e : RouteEntry) (r : LiveRecord) : LiveRecord × OutSample :=
  match r.state with
  | .parked => (r, ⟨0, false⟩)
  | _ => readStages sources e (lapIfLapped sources e r)

/-- Reads in time order: the record they leave and the output samples. -/
def readMany (sources : Vector Source 192) (e : RouteEntry) : Nat → LiveRecord → LiveRecord × List OutSample
  | 0, r => (r, [])
  | k + 1, r =>
    let first := readOnce sources e r
    let rest := readMany sources e k first.1
    (rest.1, first.2 :: rest.2)

/-! ### Parking (R83 to R85) -/

/-- A destination parks (R85): counters are kept. -/
def park (r : LiveRecord) : LiveRecord :=
  { LiveRecord.powerOn with
    state := .parked
    counters := r.counters }

/-- IDLE with no stream, no fade and last output sample 0; counters are kept (R88; log entry 8). -/
def idleSilent (r : LiveRecord) : LiveRecord :=
  { LiveRecord.powerOn with counters := r.counters }

/-- What a destination does when its output side stops: ACTIVE and FILLING park; an IDLE one drops a fade to silence in
flight, and one whose fade has ended, with last output sample 0, is left as it is (R83, R84, R98). -/
def stopRecord (r : LiveRecord) : LiveRecord :=
  match r.state with
  | .active => park r
  | .filling => park r
  | .idle => if r.fade < 32 then idleSilent r else r
  | .parked => r

/-! ### Replacement of the committed entry (R86 to R88) -/

/-- FILLING on a new enabled entry (R86). -/
def enterFilling (sources : Vector Source 192) (e : RouteEntry) (r : LiveRecord) : LiveRecord :=
  match mostPreferred sources e with
  | some (a, i) => reseat sources e a i r
  | none =>
    match r.current, e.absenceFill with
    | some (.fill .silence), .silence => r
    | some (.fill (.hold _)), .hold => r
    | _, _ => fillFaded e r

/-- A stream kept by position on a new entry: lap, realign, new parameters, or nothing (R87 step 3). -/
def keepPosition (sources : Vector Source 192) (e : RouteEntry) (st : SourceStream) (r : LiveRecord) : LiveRecord :=
  let x := sources[st.source]
  if 8191 < streamFill x st then lapReseat sources e st.source r
  else if driftAllowed (streamFill x st) e.delay then
    if e.gain = st.gain ∧ e.invert = st.invert ∧ e.mute = st.mute then r
    else crossfade r (makeStream st.source st.readCount e.gain e.invert e.mute)
  else realign x e.delay st e.gain e.invert e.mute r

/-- ACTIVE on a new enabled entry: a fresh selection (R87); `oldDelay` is D of the entry replaced. -/
def enterActive (sources : Vector Source 192) (oldDelay : Nat) (e : RouteEntry) (r : LiveRecord) : LiveRecord :=
  match mostPreferred sources e with
  | none => fillFaded e r
  | some (a, i) =>
    match r.sourceStream with
    | some st =>
      if st.source = i ∧ e.delay = oldDelay then keepPosition sources e st { r with active := some a }
      else reseat sources e a i r
    | none => reseat sources e a i r

/-- A disabled entry replaces the committed entry (R88). -/
def enterDisabled (r : LiveRecord) : LiveRecord :=
  match r.state with
  | .active => { crossfade r (.fill .silence) with state := .idle, active := none }
  | .filling => { crossfade r (.fill .silence) with state := .idle, active := none }
  | .parked => idleSilent r
  | .idle => idleSilent r

/-- A live record acts on the entry that replaces its committed one (R86 to R88); `running` says whether its output side
runs after the application. -/
def enterEntry (sources : Vector Source 192) (oldDelay : Nat) (e : RouteEntry) (running : Bool) (r : LiveRecord) :
    LiveRecord :=
  if e.enabled then
    match r.state with
    | .idle => if running then start sources e r else park r
    | .parked => if running then start sources e r else park r
    | .filling => enterFilling sources e r
    | .active => enterActive sources oldDelay e r
  else enterDisabled r

/-! ### Reset and counters (R89, R90) -/

/-- RESET UNIT on a destination (R90). -/
def resetRecord (e : RouteEntry) (_r : LiveRecord) : LiveRecord :=
  { LiveRecord.powerOn with state := if e.enabled then .parked else .idle }

/-- CLEAR COUNTERS on a destination (R89). -/
def clearRecordCounters (r : LiveRecord) : LiveRecord :=
  { r with counters := .zero }

/-! ### Scopes of destinations -/

/-- The destinations of a lane or port stop (R83, R84): those for which `stopping` holds. -/
def stopDests (stopping : DestIx → Bool) (s : State) : State :=
  s.updateDests fun d r => if stopping d then stopRecord r else r

/-- The frame-start check of the destinations of a scope but for those in `skip` (R73, R159). -/
def checkScope (scope : Iface) (skip : DestIx → Bool) (s : State) : State :=
  s.updateDests fun d r =>
    if trackScope d = scope ∧ !skip d then check s.sources s.entries[d] (outputRuns s d) r else r

end Sys2Proof.Machine
end

