-- ==== Sys2Proof/Machine/FrameCount.lean ====
section
/-! DEFINITION. The frame count unit (09): RC events, marks in, pending marks, cadence phase, SET REFERENCE's effect. -/

namespace Sys2Proof.Machine

/-- (RC + 1) modulo 60000 (R139, R141). -/
def nextCount (c : Fin 60000) : Fin 60000 :=
  ⟨(c.val + 1) % 60000, Nat.mod_lt _ (by decide)⟩

/-- The realign flags an RC event sets: every lane LOCKED in the event's format, or in any for a preset (R145). -/
def rcEvent (f : Option Format) (s : State) : State :=
  s.modifyRef fun r =>
    { r with
      realign := updateAll r.realign fun n flag =>
        flag || (decide (s.lanes[n].inputState = .locked) && (f.isNone || decide (s.lanes[n].format = f))) }

/-- An input frame start of lane n: a LEADER's reference lane raises RC (R139). -/
def inputFrameStart (n : LaneIx) (s : State) : State :=
  if s.ref.role = .leader ∧ s.ref.refLane = n then
    rcEvent s.lanes[n].format (s.modifyRef fun r => { r with count := nextCount r.count })
  else s

/-- The lanes an in-step mark of lane a is propagated to (R141). -/
def propagate (a : LaneIx) (c : Fin 60000) (s : State) : State :=
  s.modifyRef fun r =>
    { r with
      pendingMark := updateAll r.pendingMark fun n mark =>
        if inSet r.markOut n ∧ n ≠ a ∧ s.lanes[n].inputState = .locked then some c else mark }

/-- A FOLLOWER's valid mark on a mark-input lane: in step (R141) or a jump (R142). -/
def followMark (a : LaneIx) (c : Fin 60000) (s : State) : State :=
  if c = nextCount s.ref.count then
    propagate a c (rcEvent s.lanes[a].format (s.modifyRef fun r =>
      { r with
        count := c
        inStep := raise r.inStep 1 }))
  else
    rcEvent s.lanes[a].format (s.modifyRef fun r =>
      { r with
        count := c
        jumps := raise r.jumps 1 })

/-- A consumed frame mark: invalid, ignored, in step or a jump (R140). -/
def takeMark (a : LaneIx) (count : Word) (s : State) : State :=
  if h : count.toNat < 60000 then
    if s.ref.role = .follower ∧ inSet s.ref.markIn a then followMark a ⟨count.toNat, h⟩ s
    else s.modifyRef fun r => { r with ignored := raise r.ignored 1 }
  else s.modifyRef fun r => { r with invalid := raise r.invalid 1 }

/-- Phase P of a lane's next output frame (R146): RC modulo 5 at the first frame start or with the flag set, else the
phase that follows. -/
def nextPhase (first flag : Bool) (count : Fin 60000) (p : Fin 5) : Fin 5 :=
  if first || flag then ⟨count.val % 5, Nat.mod_lt _ (by decide)⟩ else ⟨(p.val + 1) % 5, Nat.mod_lt _ (by decide)⟩

/-- A slip: the flag set at a frame start other than the first, and RC modulo 5 is not the phase that follows (R146). -/
def phaseSlips (first flag : Bool) (count : Fin 60000) (p : Fin 5) : Bool :=
  !first && flag && decide (count.val % 5 ≠ (p.val + 1) % 5)

/-- The frame count unit's work at an output frame start of a LOCKED lane (R145, R146). -/
def setPhase (n : LaneIx) (s : State) : State :=
  let l := s.lanes[n]
  let flag := s.ref.realign[n]
  let fractional := (l.format.map formatFractional).getD false
  let slip := fractional && phaseSlips l.firstFrame flag s.ref.count s.ref.phase[n]
  { s with
    ref := { s.ref with
      phase := modifyAt s.ref.phase n fun p =>
        if fractional then nextPhase l.firstFrame flag s.ref.count p else p
      realign := modifyAt s.ref.realign n fun _ => false }
    lanes := modifyAt s.lanes n fun l =>
      { l with
        firstFrame := false
        counters := { l.counters with slips := raise l.counters.slips (bitNat slip) } } }

/-- The frame count unit at lane loss: pending mark and flag cleared (R15, R145). -/
def referenceLaneLoss (n : LaneIx) (r : Reference) : Reference :=
  { r with
    pendingMark := modifyAt r.pendingMark n fun _ => none
    realign := modifyAt r.realign n fun _ => false }

/-- The settings of SET REFERENCE, with the pending marks it clears (R143). -/
def setSettings (reference marks : Word) (r : Reference) : Reference :=
  { r with
    role := readRole reference
    refLane := readRefLane reference
    markIn := loByte marks
    markOut := hiByte marks
    pendingMark := updateAll r.pendingMark fun n mark =>
      if readRole reference = .follower ∧ inSet (hiByte marks) n then mark else none }

/-- RESET UNIT on the frame count unit (R148). -/
def resetReference (r : Reference) : Reference :=
  { r with
    pendingMark := Vector.replicate 8 none
    realign := Vector.replicate 8 false
    inStep := 0
    jumps := 0
    invalid := 0
    ignored := 0 }

/-- CLEAR COUNTERS on the frame count unit (R147). -/
def clearReferenceCounters (r : Reference) : Reference :=
  { r with
    inStep := 0
    jumps := 0
    invalid := 0
    ignored := 0 }

end Sys2Proof.Machine
end

