-- ==== Sys2Proof/Machine/Takes.lean ====
section
/-! DEFINITION. The take unit (10): latches, application at a scope's boundary, undo records, the APPLIED reply; with what
application does to lane and port plans (R11, R83, R84, R130, R136). -/

namespace Sys2Proof.Machine

/-! ### Replies (R165) -/

/-- A reply put at the back of the queue. -/
def queueReply (i : Iface) (status : Status) (tag : Word) (kind : Byte) (data : List Word) (s : State) : State :=
  { s with replies := s.replies ++ [⟨i, replyPayload s.straps.unitAddress status tag kind data⟩] }

/-! ### Latches -/

/-- The latched entry of a destination. -/
def latchedEntry (latches : List (DestIx × RouteEntry)) (d : DestIx) : Option RouteEntry :=
  match latches with
  | [] => none
  | (c, e) :: rest => if c = d then some e else latchedEntry rest d

/-- The latches with a destination's entry put in or replaced, by rising destination (R152). -/
def latchEntry (latches : List (DestIx × RouteEntry)) (d : DestIx) (e : RouteEntry) : List (DestIx × RouteEntry) :=
  match latches with
  | [] => [(d, e)]
  | (c, x) :: rest =>
    if d < c then (d, e) :: (c, x) :: rest
    else if d = c then (d, e) :: rest
    else (c, x) :: latchEntry rest d e

/-! ### Undo records (R158) -/

/-- The committed plan of a scope. -/
def scopePlan (s : State) (scope : Iface) : ScopePlan :=
  match ifacePlace scope with
  | .lane n => .lane s.lanes[n].plan
  | .port p => .port s.ports[p].plan

/-- What a take is about to replace. -/
def undoRecord (s : State) (t : Take) : UndoRecord where
  entries := t.latches.map fun c => (c.1, s.entries[c.1])
  plan := t.plan.map fun _ => scopePlan s t.scope

/-- The record pushed for a take of origin COMMIT that latches anything; at most 6 records, the oldest lost (R158). -/
def pushUndo (t : Take) (s : State) : State :=
  if t.origin = .commit ∧ (t.latches ≠ [] ∨ t.plan.isSome) then
    { s with undo := modifyAt s.undo t.scope fun stack => (undoRecord s t :: stack).take 6 }
  else s

/-! ### The clock of a port (R5, R129) -/

/-- One sample of a port's clock: the position rises, and a port period or port frame may fall due (R129). -/
def advancePort (x : Port) : Port :=
  let position := (x.position + 1) % 1024
  { x with
    position := position
    periodDue := x.periodDue || decide (position % 16 = 0)
    frameDue := x.frameDue || decide (position = 0) }

/-- Several samples of a port's clock, one after another (R5). Those behind one that raises a port frame are held until the
frame has been taken (R136; log entry 32). -/
def advanceBy : Nat → Port → Port
  | 0, x => x
  | k + 1, x =>
    let y := advancePort x
    if y.position = 0 then { y with heldSamples := k } else advanceBy k y

/-- The held samples of a port fall, and `count` more after them (R5, R129). -/
def clockSamples (count : Nat) (x : Port) : Port :=
  advanceBy (x.heldSamples + count) { x with heldSamples := 0 }

/-! ### Plans -/

/-- A lane's carry queue at application of a plan: emptied from an EMBED mode to PASS or STRIP (R11). -/
def queueAfterMode (before after : GroupMode) (queue : List Instant) : List Instant :=
  if embeds before ∧ !embeds after then [] else queue

/-- A lane plan replaced, with its queues (R11). -/
def replaceLanePlan (new : LanePlan) (l : Lane) : Lane :=
  { l with
    plan := new
    queues := updateAll l.queues fun g q => queueAfterMode l.plan.modes[g] new.modes[g] q }

/-- The clock in use under a plan's clock source (R130): a lane that is LOCKED, else the station clock. -/
def clockUnder (s : State) (source : Clock) : Clock :=
  match source with
  | .station => .station
  | .lane n => if s.lanes[n].inputState = .locked then .lane n else .station

/-- Whether taking up a plan's clock source is a clock fallback: it names a lane that is not LOCKED and the clock in use
was not the station clock (R130). -/
def isFallback (s : State) (inUse source : Clock) : Bool :=
  decide (source ≠ .station) && decide (clockUnder s source = .station) && decide (inUse ≠ .station)

/-- A port plan replaced, with the clock in use (R130, R136). A sample of the old clock that was to fall after this frame
falls no more when the clock changes: the new clock advances the position from the frame onward (R136; log entry 32). -/
def replacePortPlan (s : State) (new : PortPlan) (x : Port) : Port :=
  { x with
    plan := new
    clock := clockUnder s new.clock
    heldSamples := if clockUnder s new.clock = x.clock then x.heldSamples else 0
    counters := { x.counters with
      fallbacks := raise x.counters.fallbacks (bitNat (isFallback s x.clock new.clock)) } }

/-- The plan a take latched replaces the committed one (R159 step 2). -/
def replacePlan (t : Take) (s : State) : State :=
  match ifacePlace t.scope, t.plan with
  | .lane n, some (.lane new) => s.modifyLane n (replaceLanePlan new)
  | .port p, some (.port new) => s.modifyPort p (replacePortPlan s new)
  | _, _ => s

/-! ### Groups and channels start and stop (R83, R84) -/

/-- The groups of a lane that run now; destinations of those that stop park. -/
def setGroups (n : LaneIx) (runs : GroupIx → Bool) (s : State) : State :=
  let stopping (d : DestIx) := decide (trackPlace d = .lane n) && !runs (trackGroup d)
  (stopDests stopping s).modifyLane n fun l => { l with running := four runs }

/-- The channels of a port that run now; destinations of those that stop park. -/
def setChannels (p : PortIx) (runs : ChanIx → Bool) (s : State) : State :=
  let stopping (d : DestIx) := decide (trackPlace d = .port p) && !runs (trackChannel d)
  (stopDests stopping s).modifyPort p fun x => { x with running := four runs }

/-- At a boundary of a lane, or an application on it: the groups in an EMBED mode run when the lane is LOCKED (R83). -/
def settleLane (n : LaneIx) (s : State) : State :=
  setGroups n (fun g => decide (s.lanes[n].inputState = .locked) && embeds s.lanes[n].plan.modes[g]) s

/-- At a port frame: the channels the plan enables run when transmit is RUNNING (R84). -/
def settlePort (p : PortIx) (s : State) : State :=
  setChannels p (fun c => decide (s.ports[p].transmit = .running) && s.ports[p].plan.channels[c]) s

/-- The groups or channels of a scope. -/
def settleScope (scope : Iface) (s : State) : State :=
  match ifacePlace scope with
  | .lane n => settleLane n s
  | .port p => settlePort p s

/-! ### Application (R157 to R160) -/

/-- The latched entries replace the committed ones and the live records act on them (R159 steps 3 and 4). -/
def replaceEntries (latches : List (DestIx × RouteEntry)) (s : State) : State :=
  { s with
    entries := updateAll s.entries fun d e => (latchedEntry latches d).getD e
    dests := updateAll s.dests fun d r =>
      match latchedEntry latches d with
      | some e => enterEntry s.sources s.entries[d].delay e (outputRuns s d) r
      | none => r }

/-- Whether an APPLIED reply can be queued for an owner: a port always; a lane when LOCKED, or at the lane loss of that
very lane, whose purge then discards it (R160, R165). -/
def ownerHears (lost : Option LaneIx) (owner : Iface) (s : State) : Bool :=
  match ifacePlace owner with
  | .lane n => decide (s.lanes[n].inputState = .locked) || decide (lost = some n)
  | .port _ => true

/-- The request kind an APPLIED reply repeats (R26, R160). -/
def originKind : TakeOrigin → Byte
  | .commit => 0x23
  | .undo => 0x25

/-- The APPLIED reply, or its drop and count (R160, R165). -/
def replyApplied (lost : Option LaneIx) (t : Take) (s : State) : State :=
  if ownerHears lost t.owner s ∧ s.replies.length < 8 then
    queueReply t.owner .applied t.tag (originKind t.origin) [toWord s.ref.count.val] s
  else { s with droppedApplied := raise s.droppedApplied 1 }

/-- A take applied, as one event (R159). `lost` is the lane whose loss applies it, if one does. -/
def applyTake (lost : Option LaneIx) (t : Take) (s : State) : State :=
  let planned := settleScope t.scope (replacePlan t (pushUndo t s))
  replyApplied lost t { replaceEntries t.latches planned with take := none }

/-- The take that is PENDING on a scope, if there is one. -/
def pendingOn (s : State) (scope : Iface) : Option Take :=
  match s.take with
  | some t => if t.state = .pending ∧ t.scope = scope then some t else none
  | none => none

/-- A boundary of a scope: a take pending on it is applied; groups or channels start and stop either way; the check runs
for the destinations the take did not latch (R73, R83, R84, R157, R159). -/
def boundary (scope : Iface) (between : State → State) (s : State) : State :=
  match pendingOn s scope with
  | some t =>
    checkScope scope (fun d => (latchedEntry t.latches d).isSome) (between (applyTake none t s))
  | none => checkScope scope (fun _ => false) (between (settleScope scope s))

/-- A take that has just become PENDING on a lane that is not LOCKED is applied at once (R155, R157, R161). -/
def applyIfIdle (t : Take) (s : State) : State :=
  match ifacePlace t.scope with
  | .lane n => if s.lanes[n].inputState = .locked then s else applyTake none t s
  | .port _ => s

end Sys2Proof.Machine
end

