-- ==== Sys2Proof/Machine/PortSettings.lean ====
section
/-! DEFINITION. What SET PORT and RESET UNIT do to a port (08 R128, R131, R137). -/

namespace Sys2Proof.Machine

/-- The receive side of a port stops (R128): in FIFO and staging emptied, timers stopped with nothing due, previous counts
none. -/
def stopReceive (x : Port) : Port :=
  { x with
    receiveEnable := false
    inFifo := []
    staging := .idle
    prevCount := Vector.replicate 4 none
    absence := Vector.replicate 4 none
    absenceDue := Vector.replicate 4 false }

/-- SET PORT's receive part (R128, R166). -/
def setReceive (p : PortIx) (enable : Bool) (s : State) : State :=
  if enable then s.modifyPort p fun x => { x with receiveEnable := true }
  else if s.ports[p].receiveEnable then
    let s := absentPort p (s.modifyPort p stopReceive)
    { s with replies := purgeReplies (portScope p) s.replies }
  else s

/-- Transmit leaves RUNNING or STALLED for another state that does not run: its channels stop (R84, R131). -/
def haltTransmit (p : PortIx) (state : TransmitState) (s : State) : State :=
  setChannels p (fun _ => false) (s.modifyPort p fun x => { x with transmit := state })

/-- SET PORT's transmit part (R131). -/
def setTransmit (p : PortIx) (enable : Bool) (s : State) : State :=
  match enable, s.ports[p].transmit with
  | true, .disabled =>
    s.modifyPort p fun x =>
      { x with
        transmit := .running
        stallTimer := 0 }
  | true, _ => s
  | false, .disabled => s
  | false, _ => haltTransmit p .disabled s

/-- RESET UNIT on a port (R137): enables, plan, position and clock in use are kept; a STALLED port becomes RUNNING. -/
def resetPort (x : Port) : Port :=
  { x with
    inFifo := []
    outFifo := []
    staging := .idle
    prevCount := Vector.replicate 4 none
    absence := Vector.replicate 4 none
    absenceDue := Vector.replicate 4 false
    stallTimer := 0
    nextCount := 0
    transmit := if x.transmit = .stalled then .running else x.transmit
    running := Vector.replicate 4 false
    counters := .zero }

end Sys2Proof.Machine
end

