-- ==== Sys2Proof/WellFormed.lean ====
section
/-! DEFINITION. Which commands the outside can send. -/

namespace Sys2Proof

/-- The request kinds of the table of R25. -/
def knownRequestKinds : List Byte :=
  [0x01, 0x02, 0x03, 0x04, 0x05, 0x06, 0x07, 0x08, 0x10, 0x11, 0x12, 0x18, 0x19, 0x20, 0x21, 0x22, 0x23, 0x24, 0x25]

/-- A request payload is at most 255 words (02, Framing; R29), its first two the address and kind word and the tag. -/
def requestFits (params : List Word) : Bool :=
  decide (params.length ≤ 253)

/-- The blanking space of a carriage line is at least 256 words (01, Frames and carriage lines); a request's parameters
fit a payload; the unknown kind is not in the table of R25. -/
def Instr.wellFormed : Instr → Bool
  | .powerOnResetAssert => true
  | .powerOnResetRelease _ _ _ => true
  | .linkSignalAppears _ => true
  | .linkSignalLost _ => true
  | .frameStart _ _ => true
  | .inputCarriageLine _ blanking => decide (256 ≤ blanking.length)
  | .outputFrameStart _ => true
  | .outputLineBuild _ => true
  | .portWordReceived _ _ => true
  | .stagingWordTaken _ => true
  | .channelAbsenceTimeout _ _ => true
  | .portFrame _ => true
  | .portPeriod _ => true
  | .transmitStall _ => true
  | .outFifoWordTaken _ => true
  | .readRoute _ _ params => requestFits params
  | .readRouteState _ _ params => requestFits params
  | .readSource _ _ params => requestFits params
  | .readLane _ _ params => requestFits params
  | .readPort _ _ params => requestFits params
  | .readReference _ _ params => requestFits params
  | .readTake _ _ params => requestFits params
  | .readDevice _ _ params => requestFits params
  | .setSource _ _ params => requestFits params
  | .setReference _ _ params => requestFits params
  | .setPort _ _ params => requestFits params
  | .clearCounters _ _ params => requestFits params
  | .resetUnit _ _ params => requestFits params
  | .openTake _ _ params => requestFits params
  | .setRoute _ _ params => requestFits params
  | .setPlan _ _ params => requestFits params
  | .commitTake _ _ params => requestFits params
  | .abandonTake _ _ params => requestFits params
  | .undoTake _ _ params => requestFits params
  | .unknownRequestKind _ kind _ params => !knownRequestKinds.contains kind && requestFits params
  | .takeExpiry => true

end Sys2Proof
end

