-- ==== Sys2Proof/Machine/Control.lean ====
section
/-! DEFINITION. The control unit (11): taking a request, and the nineteen request kinds with the unknown ones. -/

namespace Sys2Proof.Machine

/-! ### Taking a request (R163) -/

/-- The room test: with 8 replies queued the request is dropped, unexamined, and counted (R163 step 1, R171). -/
def withRoom (s : State) (act : State → State) : State :=
  if s.replies.length < 8 then act s else { s with unanswered := raise s.unanswered 1 }

/-- BAD REQUEST (R25). -/
def refuse (i : Iface) (tag : Word) (kind : Byte) (s : State) : State :=
  queueReply i .badRequest tag kind [] s

/-- An index parameter, or none when it is outside its range (R25). -/
def readIndex (n : Nat) (w : Word) : Option (Fin n) :=
  if h : w.toNat < n then some ⟨w.toNat, h⟩ else none

/-- A request whose one parameter is an index below n: its act, or BAD REQUEST (R25). -/
def withIndex (n : Nat) (i : Iface) (tag : Word) (kind : Byte) (params : List Word) (s : State)
    (act : Fin n → State → State) : State :=
  withRoom s fun s =>
    match params with
    | [w] =>
      match readIndex n w with
      | some k => act k s
      | none => refuse i tag kind s
    | _ => refuse i tag kind s

/-- A request without parameters: its act, or BAD REQUEST (R25). -/
def withoutParams (i : Iface) (tag : Word) (kind : Byte) (params : List Word) (s : State) (act : State → State) : State :=
  withRoom s fun s =>
    match params with
    | [] => act s
    | _ => refuse i tag kind s

/-! ### READ requests (R167) -/

/-- READ ROUTE (R66, R167). -/
def readRoute (i : Iface) (tag : Word) (params : List Word) (s : State) : State :=
  withIndex 192 i tag 0x01 params s fun d s => queueReply i .done tag 0x01 (routeData d s.entries[d]) s

/-- READ ROUTE STATE (R68, R89, R167). -/
def readRouteState (i : Iface) (tag : Word) (params : List Word) (s : State) : State :=
  withIndex 192 i tag 0x02 params s fun d s => queueReply i .done tag 0x02 (routeStateData d s.dests[d]) s

/-- READ SOURCE: the record, then the peak is cleared (R63). -/
def readSource (i : Iface) (tag : Word) (params : List Word) (s : State) : State :=
  withIndex 192 i tag 0x03 params s fun k s =>
    queueReply i .done tag 0x03 (sourceData k s.sources[k]) (s.modifySource k fun x => { x with peak := 0 })

/-- READ LANE (R167). -/
def readLane (i : Iface) (tag : Word) (params : List Word) (s : State) : State :=
  withIndex 8 i tag 0x04 params s fun n s => queueReply i .done tag 0x04 (laneData n s.lanes[n]) s

/-- READ PORT (R121, R167). -/
def readPort (i : Iface) (tag : Word) (params : List Word) (s : State) : State :=
  withIndex 2 i tag 0x05 params s fun p s =>
    queueReply i .done tag 0x05 (portData p s.ports[p] (channelPresent s p)) s

/-- READ REFERENCE (R138, R167). -/
def readReference (i : Iface) (tag : Word) (params : List Word) (s : State) : State :=
  withoutParams i tag 0x06 params s fun s => queueReply i .done tag 0x06 (referenceData s) s

/-- READ TAKE (R149, R167). -/
def readTake (i : Iface) (tag : Word) (params : List Word) (s : State) : State :=
  withoutParams i tag 0x07 params s fun s => queueReply i .done tag 0x07 (takeData s) s

/-- READ DEVICE (R167, R171). -/
def readDevice (i : Iface) (tag : Word) (params : List Word) (s : State) : State :=
  withoutParams i tag 0x08 params s fun s => queueReply i .done tag 0x08 (deviceData s) s

/-! ### Settings (R168) -/

/-- SET SOURCE: the silence level, clamped to 32767 (R56). -/
def setSource (i : Iface) (tag : Word) (params : List Word) (s : State) : State :=
  withRoom s fun s =>
    match params with
    | [w, level] =>
      match readIndex 192 w with
      | some k =>
        queueReply i (if level.toNat ≤ 32767 then .done else .adjusted) tag 0x10 []
          (s.modifySource k fun x => { x with silenceLevel := min 32767 level.toNat })
      | none => refuse i tag 0x10 s
    | _ => refuse i tag 0x10 s

/-- SET REFERENCE without a preset: the settings, no RC event (R143). -/
def applySettings (reference marks : Word) (s : State) : State :=
  s.modifyRef (setSettings reference marks)

/-- SET REFERENCE (R143): settings, and with a third parameter a preset, refused whole from 60000 on. -/
def setReference (i : Iface) (tag : Word) (params : List Word) (s : State) : State :=
  withRoom s fun s =>
    match params with
    | [reference, marks] => queueReply i .done tag 0x11 [] (applySettings reference marks s)
    | [reference, marks, preset] =>
      match readIndex 60000 preset with
      | some c =>
        queueReply i .done tag 0x11 []
          (rcEvent none ((applySettings reference marks s).modifyRef fun r => { r with count := c }))
      | none => refuse i tag 0x11 s
    | _ => refuse i tag 0x11 s

/-- SET PORT (R128, R131): receive part, transmit part, then the DONE reply. -/
def setPort (i : Iface) (tag : Word) (params : List Word) (s : State) : State :=
  withRoom s fun s =>
    match params with
    | [w, enables] =>
      match readIndex 2 w with
      | some p =>
        queueReply i .done tag 0x12 []
          (setTransmit p (enables.getLsbD 1) (setReceive p (enables.getLsbD 0) s))
      | none => refuse i tag 0x12 s
    | _ => refuse i tag 0x12 s

/-! ### Counters and reset (R169, R170) -/

/-- Every counter of the part set to 0 (R169). -/
def zeroCounters (s : State) : State :=
  { s with
    lanes := updateAll s.lanes fun _ l => { l with counters := .zero }
    sources := updateAll s.sources fun _ x => clearSourceCounters x
    dests := updateAll s.dests fun _ r => clearRecordCounters r
    ports := updateAll s.ports fun _ x => { x with counters := .zero }
    ref := clearReferenceCounters s.ref
    unanswered := 0
    droppedApplied := 0 }

/-- CLEAR COUNTERS (R169). -/
def clearCounters (i : Iface) (tag : Word) (params : List Word) (s : State) : State :=
  withoutParams i tag 0x18 params s fun s => queueReply i .done tag 0x18 [] (zeroCounters s)

/-- RESET UNIT on a lane section, its stripper and its arbiter (R16, R49, R83): input record, plan and pass lists are
kept. -/
def resetLane (l : Lane) : Lane :=
  { l with
    queues := Vector.replicate 4 []
    running := Vector.replicate 4 false
    rotation := 0
    replyTurn := .before
    seen := Vector.replicate 4 false
    counters := .zero }

/-- RESET UNIT on every block; the reply queue emptied, both device counters 0, the straps kept (R170). -/
def resetBlocks (s : State) : State :=
  { s with
    lanes := updateAll s.lanes fun _ l => resetLane l
    sources := updateAll s.sources fun _ x => resetSource x
    dests := updateAll s.dests fun d r => resetRecord s.entries[d] r
    ports := updateAll s.ports fun _ x => resetPort x
    ref := resetReference s.ref
    take := none
    undo := Vector.replicate 10 []
    replies := []
    unanswered := 0
    droppedApplied := 0 }

/-- RESET UNIT (R170): its DONE reply is the only entry left. -/
def resetUnit (i : Iface) (tag : Word) (params : List Word) (s : State) : State :=
  withoutParams i tag 0x19 params s fun s => queueReply i .done tag 0x19 [] (resetBlocks s)

/-! ### Take requests (R150 to R156, R161) -/

/-- The tests of R150, in order: the OPEN take of this interface, or the status of the refusal. -/
def ownTake (i : Iface) (s : State) : Except Status Take :=
  match s.take with
  | none => .error .noTake
  | some t =>
    if t.owner ≠ i then .error .takeHeld
    else if t.state = .pending then .error .pending
    else .ok t

/-- OPEN TAKE (R151). -/
def openTake (i : Iface) (tag : Word) (params : List Word) (s : State) : State :=
  withIndex 10 i tag 0x20 params s fun scope s =>
    match s.take with
    | some _ => queueReply i .takeHeld tag 0x20 [] s
    | none =>
      queueReply i .done tag 0x20 []
        { s with
          take := some {
            state := .opened
            scope := scope
            owner := i
            latches := []
            plan := none
            expiry := 0
            origin := .commit
            tag := 0 } }

/-- The entry tests of SET ROUTE, in order: the destination and its entry, or the status of the refusal (R152). -/
def testRoute (t : Take) (dest flags codes gain delay : Word) (candidates : List Word) :
    Except Status (DestIx × RouteEntry) :=
  match readIndex 192 dest with
  | none => .error .badEntry
  | some d =>
    if trackScope d ≠ t.scope then .error .outOfScope
    else if 4 < countField flags ∨ (countField flags = 0 ∧ flags.getLsbD 0) then .error .badEntry
    else
      match readCandidates candidates with
      | none => .error .badEntry
      | some cs =>
        if cs.Nodup then .ok (d, readEntry flags codes gain delay cs) else .error .badEntry

/-- A latch put into the take: the expiry count returns to 0 (R152). -/
def latchRoute (t : Take) (d : DestIx) (e : RouteEntry) : Take :=
  { t with
    latches := latchEntry t.latches d e
    expiry := 0 }

/-- SET ROUTE with its words, after the form test: R150, R152. -/
def routeRequest (i : Iface) (tag : Word) (dest flags codes gain delay : Word) (candidates : List Word) (s : State) :
    State :=
  match ownTake i s with
  | .error status => queueReply i status tag 0x21 [] s
  | .ok t =>
    match testRoute t dest flags codes gain delay candidates with
    | .error status => queueReply i status tag 0x21 [] s
    | .ok (d, e) =>
      queueReply i (if e.delay = delay.toNat then .done else .adjusted) tag 0x21 []
        { s with take := some (latchRoute t d e) }

/-- SET ROUTE (R25, R152): the required count is 5 plus the candidate count field. -/
def setRoute (i : Iface) (tag : Word) (params : List Word) (s : State) : State :=
  withRoom s fun s =>
    match params with
    | dest :: flags :: codes :: gain :: delay :: candidates =>
      if candidates.length = countField flags then routeRequest i tag dest flags codes gain delay candidates s
      else refuse i tag 0x21 s
    | _ => refuse i tag 0x21 s

/-- The plan of SET PLAN's words for a scope (R153). -/
def readPlan (scope : Iface) (a b : Word) : ScopePlan :=
  match ifacePlace scope with
  | .lane _ => .lane (readLanePlan a b)
  | .port _ => .port (readPortPlan a b)

/-- Whether SET PLAN clamped the budget (R153). -/
def planAdjusted (scope : Iface) (b : Word) : Bool :=
  match ifacePlace scope with
  | .lane _ => decide ((1 ≤ b.toNat ∧ b.toNat ≤ 31) ∨ 257 ≤ b.toNat)
  | .port _ => false

/-- SET PLAN (R150, R153). -/
def setPlan (i : Iface) (tag : Word) (params : List Word) (s : State) : State :=
  withRoom s fun s =>
    match params with
    | [w, a, b] =>
      match readIndex 10 w with
      | none => refuse i tag 0x22 s
      | some scope =>
        match ownTake i s with
        | .error status => queueReply i status tag 0x22 [] s
        | .ok t =>
          if scope ≠ t.scope then queueReply i .outOfScope tag 0x22 [] s
          else
            queueReply i (if planAdjusted scope b then .adjusted else .done) tag 0x22 []
              { s with
                take := some { t with
                  plan := some (readPlan scope a b)
                  expiry := 0 } }
    | _ => refuse i tag 0x22 s

/-- A take made PENDING by COMMIT TAKE (R155). -/
def committed (t : Take) (tag : Word) : Take :=
  { t with
    state := .pending
    origin := .commit
    tag := tag }

/-- COMMIT TAKE (R150, R155): no reply now; applied at once on a lane that is not LOCKED. -/
def commitTake (i : Iface) (tag : Word) (params : List Word) (s : State) : State :=
  withoutParams i tag 0x23 params s fun s =>
    match ownTake i s with
    | .error status => queueReply i status tag 0x23 [] s
    | .ok t => applyIfIdle (committed t tag) { s with take := some (committed t tag) }

/-- ABANDON TAKE (R150, R156). -/
def abandonTake (i : Iface) (tag : Word) (params : List Word) (s : State) : State :=
  withoutParams i tag 0x24 params s fun s =>
    match ownTake i s with
    | .error status => queueReply i status tag 0x24 [] s
    | .ok _ => queueReply i .done tag 0x24 [] { s with take := none }

/-- The take an undo record makes (R161). -/
def undoneTake (i scope : Iface) (tag : Word) (record : UndoRecord) : Take where
  state := .pending
  scope := scope
  owner := i
  latches := record.entries
  plan := record.plan
  expiry := 0
  origin := .undo
  tag := tag

/-- UNDO TAKE (R161). -/
def undoTake (i : Iface) (tag : Word) (params : List Word) (s : State) : State :=
  withIndex 10 i tag 0x25 params s fun scope s =>
    match s.take with
    | some _ => queueReply i .takeHeld tag 0x25 [] s
    | none =>
      match s.undo[scope] with
      | [] => queueReply i .empty tag 0x25 [] s
      | record :: rest =>
        applyIfIdle (undoneTake i scope tag record)
          { s with
            take := some (undoneTake i scope tag record)
            undo := modifyAt s.undo scope fun _ => rest }

/-- A request of a kind not in the table (R25). -/
def unknownRequest (i : Iface) (kind : Byte) (tag : Word) (s : State) : State :=
  withRoom s fun s => refuse i tag kind s

/-! ### Hand-over (R42, R126, R163) -/

/-- The control unit takes a request by its kind (R25, R163). -/
def takeRequest (i : Iface) (kind : Byte) (tag : Word) (params : List Word) (s : State) : State :=
  match kind.toNat with
  | 0x01 => readRoute i tag params s
  | 0x02 => readRouteState i tag params s
  | 0x03 => readSource i tag params s
  | 0x04 => readLane i tag params s
  | 0x05 => readPort i tag params s
  | 0x06 => readReference i tag params s
  | 0x07 => readTake i tag params s
  | 0x08 => readDevice i tag params s
  | 0x10 => setSource i tag params s
  | 0x11 => setReference i tag params s
  | 0x12 => setPort i tag params s
  | 0x18 => clearCounters i tag params s
  | 0x19 => resetUnit i tag params s
  | 0x20 => openTake i tag params s
  | 0x21 => setRoute i tag params s
  | 0x22 => setPlan i tag params s
  | 0x23 => commitTake i tag params s
  | 0x24 => abandonTake i tag params s
  | 0x25 => undoTake i tag params s
  | _ => unknownRequest i kind tag s

/-- A whole request payload handed over from an interface; a well-formed one has at least two words (R20, R124). -/
def handOver (i : Iface) (payload : List Word) (s : State) : State :=
  match payload with
  | head :: tag :: params => takeRequest i (hiByte head) tag params s
  | _ => s

/-- The unit address a request payload names. -/
def requestAddress (payload : List Word) : Byte :=
  loByte (payload.getD 0 0)

/-- Addressed to this part by its strapped address (R42). -/
def toThisUnit (s : State) (payload : List Word) : Bool :=
  decide (requestAddress payload = addressByte s.straps.unitAddress)

/-- Addressed to every part (R43). -/
def isBroadcast (payload : List Word) : Bool :=
  decide (requestAddress payload = 0xFF)

/-! ### The request rows -/

/-- READ_ROUTE. -/
def execReadRoute (i : Iface) (tag : Word) (params : List Word) (s : State) : Host.Outcome State Fault Refusal :=
  powered s (readRoute i tag params)

/-- READ_ROUTE_STATE. -/
def execReadRouteState (i : Iface) (tag : Word) (params : List Word) (s : State) : Host.Outcome State Fault Refusal :=
  powered s (readRouteState i tag params)

/-- READ_SOURCE. -/
def execReadSource (i : Iface) (tag : Word) (params : List Word) (s : State) : Host.Outcome State Fault Refusal :=
  powered s (readSource i tag params)

/-- READ_LANE. -/
def execReadLane (i : Iface) (tag : Word) (params : List Word) (s : State) : Host.Outcome State Fault Refusal :=
  powered s (readLane i tag params)

/-- READ_PORT. -/
def execReadPort (i : Iface) (tag : Word) (params : List Word) (s : State) : Host.Outcome State Fault Refusal :=
  powered s (readPort i tag params)

/-- READ_REFERENCE. -/
def execReadReference (i : Iface) (tag : Word) (params : List Word) (s : State) : Host.Outcome State Fault Refusal :=
  powered s (readReference i tag params)

/-- READ_TAKE. -/
def execReadTake (i : Iface) (tag : Word) (params : List Word) (s : State) : Host.Outcome State Fault Refusal :=
  powered s (readTake i tag params)

/-- READ_DEVICE. -/
def execReadDevice (i : Iface) (tag : Word) (params : List Word) (s : State) : Host.Outcome State Fault Refusal :=
  powered s (readDevice i tag params)

/-- SET_SOURCE. -/
def execSetSource (i : Iface) (tag : Word) (params : List Word) (s : State) : Host.Outcome State Fault Refusal :=
  powered s (setSource i tag params)

/-- SET_REFERENCE. -/
def execSetReference (i : Iface) (tag : Word) (params : List Word) (s : State) : Host.Outcome State Fault Refusal :=
  powered s (setReference i tag params)

/-- SET_PORT. -/
def execSetPort (i : Iface) (tag : Word) (params : List Word) (s : State) : Host.Outcome State Fault Refusal :=
  powered s (setPort i tag params)

/-- CLEAR_COUNTERS. -/
def execClearCounters (i : Iface) (tag : Word) (params : List Word) (s : State) : Host.Outcome State Fault Refusal :=
  powered s (clearCounters i tag params)

/-- RESET_UNIT. -/
def execResetUnit (i : Iface) (tag : Word) (params : List Word) (s : State) : Host.Outcome State Fault Refusal :=
  powered s (resetUnit i tag params)

/-- OPEN_TAKE. -/
def execOpenTake (i : Iface) (tag : Word) (params : List Word) (s : State) : Host.Outcome State Fault Refusal :=
  powered s (openTake i tag params)

/-- SET_ROUTE. -/
def execSetRoute (i : Iface) (tag : Word) (params : List Word) (s : State) : Host.Outcome State Fault Refusal :=
  powered s (setRoute i tag params)

/-- SET_PLAN. -/
def execSetPlan (i : Iface) (tag : Word) (params : List Word) (s : State) : Host.Outcome State Fault Refusal :=
  powered s (setPlan i tag params)

/-- COMMIT_TAKE. -/
def execCommitTake (i : Iface) (tag : Word) (params : List Word) (s : State) : Host.Outcome State Fault Refusal :=
  powered s (commitTake i tag params)

/-- ABANDON_TAKE. -/
def execAbandonTake (i : Iface) (tag : Word) (params : List Word) (s : State) : Host.Outcome State Fault Refusal :=
  powered s (abandonTake i tag params)

/-- UNDO_TAKE. -/
def execUndoTake (i : Iface) (tag : Word) (params : List Word) (s : State) : Host.Outcome State Fault Refusal :=
  powered s (undoTake i tag params)

/-- UNKNOWN_REQUEST_KIND: the parameters are not examined. -/
def execUnknownRequestKind (i : Iface) (kind : Byte) (tag : Word) (_params : List Word) (s : State) :
    Host.Outcome State Fault Refusal :=
  powered s (unknownRequest i kind tag)

/-- TAKE_EXPIRY (R154): an OPEN take is discarded without reply; a PENDING take has no expiry. -/
def execTakeExpiry (s : State) : Host.Outcome State Fault Refusal :=
  powered s fun s =>
    match s.take with
    | some t => if t.state = .opened then { s with take := none } else s
    | none => s

end Sys2Proof.Machine
end

