-- ==== Sys2Proof/Machine/Stripper.lean ====
section
/-! DEFINITION. Stripping (03): what becomes of each packet of an input line of a LOCKED lane, and the evaluation at an
input frame end. -/

namespace Sys2Proof.Machine

/-- A packet entered in the pass list of the line in progress (R45). -/
def enterPassList (n : LaneIx) (group : Option GroupIx) (p : List Word) (s : State) : State :=
  s.modifyLane n fun l => { l with passProgress := l.passProgress ++ [⟨group, p⟩] }

/-- A damaged packet (R34, R35). -/
def dropDamaged (n : LaneIx) (p : List Word) (s : State) : State :=
  let s := s.modifyLane n fun l =>
    { l with counters := { l.counters with damaged := raise l.counters.damaged 1 } }
  match packetClass (packetKind p) with
  | .sound g _ =>
    updateGroup n g (fun _ x => { x with dropped := raise x.dropped (damageAmount (packetPayload p)) }) s
  | _ => s

/-- A group marked as seen in the frame now open (R38). -/
def markSeen (n : LaneIx) (g : GroupIx) (s : State) : State :=
  s.modifyLane n fun l => { l with seen := modifyAt l.seen g fun _ => true }

/-- A good sound group packet (R36 to R39). -/
def stripSound (n : LaneIx) (g : GroupIx) (grade : Grade) (p : List Word) (s : State) : State :=
  enterPassList n (some g) p
    (markSeen n g
      (updateGroup n g (fun t x => appendSamples x (trackSamples grade (packetPayload p) t)) s))

/-- A good frame mark: consumed on a lane of either mark set, else passed (R40, R41). -/
def stripMark (n : LaneIx) (p : List Word) (s : State) : State :=
  if inSet s.ref.markIn n ∨ inSet s.ref.markOut n then takeMark n ((packetPayload p).getD 0 0) s
  else enterPassList n none p s

/-- A good control request, by its address (R42 to R44). -/
def stripRequest (n : LaneIx) (p : List Word) (s : State) : State :=
  if toThisUnit s (packetPayload p) then handOver (laneScope n) (packetPayload p) s
  else if isBroadcast (packetPayload p) then
    enterPassList n none p (handOver (laneScope n) (packetPayload p) s)
  else enterPassList n none p s

/-- One packet of a line (R34, R36 to R44). -/
def stripPacket (n : LaneIx) (s : State) (p : List Word) : State :=
  if packetGood p then
    match packetClass (packetKind p) with
    | .sound g grade => stripSound n g grade p s
    | .frameMark => stripMark n p s
    | .request => stripRequest n p s
    | .reply => enterPassList n none p s
    | .foreign => enterPassList n none p s
  else dropDamaged n p s

/-- The pass list of a line begins empty (R31). -/
def beginPassList (n : LaneIx) (s : State) : State :=
  s.modifyLane n fun l => { l with passProgress := [] }

/-- The end of a line's parse: a malformed line is counted once (R33), and the pass list becomes the one awaiting build for
output line j (R31). -/
def finishLine (n : LaneIx) (j : Nat) (blanking : List Word) (malformed : Bool) (s : State) : State :=
  s.modifyLane n fun l =>
    { l with
      counters := { l.counters with malformed := raise l.counters.malformed (bitNat malformed) }
      awaiting := some { line := j, blanking := blanking, passList := l.passProgress }
      passProgress := [] }

/-- The parse of input line j of a LOCKED lane (R31). -/
def stripLine (n : LaneIx) (j : Nat) (blanking : List Word) (s : State) : State :=
  finishLine n j blanking (scanLine blanking).2
    ((scanLine blanking).1.foldl (stripPacket n) (beginPassList n s))

/-- The evaluation at an input frame end: each group's four sources present or absent by its seen mark, then all marks
cleared (R47, R48). -/
def evaluateGroups (n : LaneIx) (s : State) : State :=
  (s.updateSources fun i x =>
    if trackPlace i = .lane n then
      (if s.lanes[n].seen[trackGroup i] then becomePresent x else becomeAbsent x)
    else x).modifyLane n fun l => { l with seen := Vector.replicate 4 false }

end Sys2Proof.Machine
end

