-- ==== Sys2Proof/Machine/Lanes.lean ====
section
/-! DEFINITION. Lane events (01): link signal, frame starts, input carriage lines, lane loss, output frame starts. -/

namespace Sys2Proof.Machine

/-! ### Lane loss (R14, R15) -/

/-- The lane's own state at lane loss (R14, R32, R118). A parsed line that was not built leaves in bypass (R8). -/
def loseLane (state : InputState) (format : Option Format) (l : Lane) : Lane :=
  { l with
    inputState := state
    format := format
    firstFrame := false
    queues := Vector.replicate 4 []
    rotation := 0
    replyTurn := .before
    seen := Vector.replicate 4 false
    passProgress := []
    awaiting := none
    linkOut := match l.awaiting with
      | some a => a.blanking
      | none => l.linkOut }

/-- A port that the lost lane clocks falls back to the station clock (R130). A sample still held of a line built before the
loss falls first (R5; log entry 32). -/
def fallBack (n : LaneIx) (x : Port) : Port :=
  if x.clock = .lane n then
    { clockSamples 0 x with
      clock := .station
      counters := { x.counters with fallbacks := raise x.counters.fallbacks 1 } }
  else x

/-- The replies of a lost lane are discarded and counted (R15, R166). -/
def purgeLane (n : LaneIx) (s : State) : State :=
  { s.modifyLane n fun l =>
      { l with
        counters := { l.counters with
          discardedReplies := raise l.counters.discardedReplies (countReplies (laneScope n) s.replies) } } with
    replies := purgeReplies (laneScope n) s.replies }

/-- A take PENDING on the lost lane is applied at once, after its groups have stopped and its sources are absent and before
its replies are purged (R157). -/
def applyAtLoss (n : LaneIx) (s : State) : State :=
  match pendingOn s (laneScope n) with
  | some t => applyTake (some n) t s
  | none => s

/-- Lane loss: the lane leaves LOCKED for `state` with `format` (R14, R15). -/
def laneLoss (n : LaneIx) (state : InputState) (format : Option Format) (s : State) : State :=
  let s := setGroups n (fun _ => false) (s.modifyLane n (loseLane state format))
  let s := (absentLane n s).modifyRef (referenceLaneLoss n)
  purgeLane n (applyAtLoss n (s.updatePorts fun _ x => fallBack n x))

/-! ### Link signal (R1) -/

/-- The link input pin. -/
def setSignal (n : LaneIx) (on : Bool) (s : State) : State :=
  s.modifyLane n fun l => { l with linkSignal := on }

/-- A lane enters ACQUIRING at its signal's appearance (R1). -/
def acquireLane (l : Lane) : Lane :=
  if l.inputState = .noSignal then
    { l with
      inputState := .acquiring
      format := none
      frameOpen := false
      lineCount := 0 }
  else l

/-- What is left of a lane without signal: no format, no open frame, no signal on its output (R1, R9). -/
def silenceLane (l : Lane) : Lane :=
  { l with
    inputState := .noSignal
    format := none
    frameOpen := false
    lineCount := 0
    linkOut := [] }

/-- LINK_SIGNAL_APPEARS (R1). While power-on reset is held only the pin follows (log entry 3). -/
def execLinkSignalAppears (n : LaneIx) (s : State) : Host.Outcome State Fault Refusal :=
  if s.resetHeld then .next (setSignal n true s)
  else .next ((setSignal n true s).modifyLane n acquireLane)

/-- The loss of a lane's signal from whichever state it is in (R1). -/
def signalLost (n : LaneIx) (s : State) : State :=
  match s.lanes[n].inputState with
  | .noSignal => s
  | .acquiring => s.modifyLane n silenceLane
  | .locked => (laneLoss n .noSignal none s).modifyLane n silenceLane

/-- LINK_SIGNAL_LOST (R1, R14, R15). While power-on reset is held the pins alone follow: the output has no signal, as its
input has none (R9, R17, log entry 3). -/
def execLinkSignalLost (n : LaneIx) (s : State) : Host.Outcome State Fault Refusal :=
  if s.resetHeld then .next ((setSignal n false s).modifyLane n fun l => { l with linkOut := [] })
  else .next (signalLost n (setSignal n false s))

/-! ### Frame starts (R2 to R4, R6) -/

/-- A new frame opened with line count 0 (R2). -/
def openFrame (n : LaneIx) (s : State) : State :=
  s.modifyLane n fun l =>
    { l with
      frameOpen := true
      lineCount := 0 }

/-- The candidate format of an ACQUIRING lane (R3). -/
def setCandidate (n : LaneIx) (format : Option Format) (s : State) : State :=
  s.modifyLane n fun l => { l with format := format }

/-- The classification of a closing frame: unrecognised with fewer than 1120 lines, else by its timing (R2). -/
def classify (l : Lane) (timing : Option Format) : Option Format :=
  if l.lineCount < 1120 then none else timing

/-- Ports whose plan names a lane go back to its clock when it becomes LOCKED (R130). -/
def takeUpClock (n : LaneIx) (x : Port) : Port :=
  if x.plan.clock = .lane n then { x with clock := .lane n } else x

/-- A lane becomes LOCKED in its candidate format (R3, R130, R146). -/
def lockLane (n : LaneIx) (s : State) : State :=
  (s.modifyLane n fun l =>
    { l with
      inputState := .locked
      firstFrame := true }).updatePorts fun _ x => takeUpClock n x

/-- The close of a frame of an ACQUIRING lane at a frame start: lock, or the new candidate (R3). -/
def closeAcquiring (n : LaneIx) (format : Option Format) (s : State) : State :=
  if format.isSome ∧ format = s.lanes[n].format then inputFrameStart n (lockLane n (openFrame n s))
  else setCandidate n format (openFrame n s)

/-- The close of a frame of a LOCKED lane at a frame start: input frame end and input frame start, or lane loss (R4, R6). -/
def closeLocked (n : LaneIx) (format : Option Format) (s : State) : State :=
  if format.isSome ∧ format = s.lanes[n].format then inputFrameStart n (openFrame n (evaluateGroups n s))
  else openFrame n (laneLoss n .acquiring format s)

/-- A frame start that arrives on a lane (R2); without signal none can arrive (log entry 10). -/
def frameStart (n : LaneIx) (timing : Option Format) (s : State) : State :=
  let l := s.lanes[n]
  match l.inputState with
  | .noSignal => s
  | .acquiring => if l.frameOpen then closeAcquiring n (classify l timing) s else openFrame n s
  | .locked => if l.frameOpen then closeLocked n (classify l timing) s else openFrame n s

/-- FRAME_START. -/
def execFrameStart (n : LaneIx) (timing : Option Format) (s : State) : Host.Outcome State Fault Refusal :=
  powered s (frameStart n timing)

/-! ### Input carriage lines (R2, R9, R31) -/

/-- The line leaves in bypass, exactly as it arrived (R9). -/
def bypassLine (n : LaneIx) (blanking : List Word) (s : State) : State :=
  s.modifyLane n fun l => { l with linkOut := blanking }

/-- The close at a 1121st line: no frame is open until the next frame start (R2; line count 0, log entry 9). -/
def closeFrame (n : LaneIx) (s : State) : State :=
  s.modifyLane n fun l =>
    { l with
      frameOpen := false
      lineCount := 0 }

/-- A frame closed as unrecognised by a 1121st carriage line (R2 to R4). -/
def longFrame (n : LaneIx) (s : State) : State :=
  match s.lanes[n].inputState with
  | .locked => closeFrame n (laneLoss n .acquiring none s)
  | _ => closeFrame n (setCandidate n none s)

/-- A line of an open frame with fewer than 1120 lines before it: counted, and stripped on a LOCKED lane (R2, R31). -/
def countedLine (n : LaneIx) (blanking : List Word) (s : State) : State :=
  let j := s.lanes[n].lineCount
  let s := s.modifyLane n fun l => { l with lineCount := l.lineCount + 1 }
  if s.lanes[n].inputState = .locked then stripLine n j blanking s else bypassLine n blanking s

/-- A carriage line that arrives on a lane with signal (R2, R9, R31). -/
def carriageLine (n : LaneIx) (blanking : List Word) (s : State) : State :=
  let l := s.lanes[n]
  if l.inputState = .noSignal then s
  else if !l.frameOpen then bypassLine n blanking s
  else if l.lineCount < 1120 then countedLine n blanking s
  else bypassLine n blanking (longFrame n s)

/-- INPUT_CARRIAGE_LINE. While power-on reset is held the output carries its input in bypass (R17). -/
def execInputCarriageLine (n : LaneIx) (blanking : List Word) (s : State) : Host.Outcome State Fault Refusal :=
  if s.resetHeld then .next (if s.lanes[n].linkSignal then bypassLine n blanking s else s)
  else .next (carriageLine n blanking s)

/-! ### Output frame starts (R7) -/

/-- An output frame start of a LOCKED lane: a pending take applied, groups begin to run, the cadence phase set, the check
run (R7, R73, R83, R146, R159). On a lane that is not LOCKED none falls. -/
def outputFrameStart (n : LaneIx) (s : State) : State :=
  if s.lanes[n].inputState = .locked then boundary (laneScope n) (setPhase n) s else s

/-- OUTPUT_FRAME_START. -/
def execOutputFrameStart (n : LaneIx) (s : State) : Host.Outcome State Fault Refusal :=
  powered s (outputFrameStart n)

end Sys2Proof.Machine
end

