-- ==== Sys2Proof/Machine/Arbiter.lean ====
section
/-! DEFINITION. The carriage builder and line arbiter (07): reads into the carry queues, and the build of an output line. -/

namespace Sys2Proof.Machine

/-! ### The carry queues (R105, R107, R108) -/

/-- Whether a group reads on a line: it runs and its mode embeds it (R108). -/
def groupReads (l : Lane) (g : GroupIx) : Bool :=
  l.running[g] && embeds l.plan.modes[g]

/-- The instants that `count` reads of a group's four destinations make, in time order (R108). -/
def readInstants (s : State) (n : LaneIx) (g : GroupIx) (count : Nat) : List Instant :=
  let outs (t : Fin 4) :=
    (readMany s.sources s.entries[laneTrack n g t] count s.dests[laneTrack n g t]).2
  (List.range count).map fun i => four fun t => (outs t).getD i ⟨0, false⟩

/-- How many instants a queue that gains `gained` must drop to hold 8 (R108). -/
def overrunOf (queue gained : List Instant) : Nat :=
  queue.length + gained.length - 8

/-- A queue after a line's reads: the oldest instants beyond 8 dropped (R108). -/
def gainInstants (queue gained : List Instant) : List Instant :=
  (queue ++ gained).drop (overrunOf queue gained)

/-- The reads of output line j on a lane, `count` for each destination of each group that reads (R105, R108). -/
def lineReads (n : LaneIx) (count : Nat) (s : State) : State :=
  let gained (g : GroupIx) := if groupReads s.lanes[n] g then readInstants s n g count else []
  let reads (d : DestIx) := decide (trackPlace d = .lane n) && groupReads s.lanes[n] (trackGroup d)
  (s.updateDests fun d r => if reads d then (readMany s.sources s.entries[d] count r).1 else r).modifyLane n fun l =>
    { l with
      queues := updateAll l.queues fun g q => gainInstants q (gained g)
      counters := { l.counters with
        overrun := updateAll l.counters.overrun fun g c => raise c (overrunOf l.queues[g] (gained g)) } }

/-! ### Placement (R109 to R114) -/

/-- A line being built: remaining words R, and the packets placed, in order (R109). -/
structure LineFill where
  room : Nat
  placed : List (List Word)
  deriving DecidableEq, Repr

/-- A packet placed when its length is no more than R (R109). -/
def place (packet : List Word) (f : LineFill) : LineFill :=
  if packet.length ≤ f.room then ⟨f.room - packet.length, f.placed ++ [packet]⟩ else f

/-- The frame mark packet (R24). -/
def markPacket (c : Fin 60000) : List Word :=
  buildPacket 0x50 [toWord c.val]

/-- The frame mark of line 0, when one is due (R110). -/
def placeMark (r : Reference) (n : LaneIx) (j : Nat) (f : LineFill) : LineFill :=
  if j = 0 then
    match markDue r n with
    | some c => place (markPacket c) f
    | none => f
  else f

/-- A pending mark placed is cleared (R110, R144). -/
def clearPlacedMark (n : LaneIx) (j : Nat) (r : Reference) : Reference :=
  if j = 0 ∧ r.role = .follower then { r with pendingMark := modifyAt r.pendingMark n fun _ => none } else r

/-- The grant m = min(q, 4, floor((R − 4) / (4·w))), 0 when R is below 4 (R111). -/
def grant (q w room : Nat) : Nat :=
  min q (min 4 ((room - 4) / (4 * w)))

/-- The sound group packet of a group's oldest instants (R21, R111). -/
def groupPacket (g : GroupIx) (grade : Grade) (phase : Nat) (instants : List Instant) : List Word :=
  buildPacket (soundKind g grade) (soundPayload grade phase instants)

/-- One group's turn: its grant placed and taken off its queue, or nothing (R111, R112). -/
def placeGroup (plan : LanePlan) (phase : Nat) (acc : Vector (List Instant) 4 × LineFill) (g : GroupIx) :
    Vector (List Instant) 4 × LineFill :=
  let mode := plan.modes[g]
  let m := grant acc.1[g].length (gradeWords (modeGrade mode)) acc.2.room
  if embeds mode ∧ 1 ≤ m then
    (modifyAt acc.1 g (List.drop m), place (groupPacket g (modeGrade mode) phase (acc.1[g].take m)) acc.2)
  else acc

/-- The groups in round-robin order from the rotation pointer (R111). -/
def roundOrder (rotation : GroupIx) : List GroupIx :=
  [rotation, rotation + 1, rotation + 2, rotation + 3]

/-- All EMBED groups' turns (R111, R112). -/
def placeGroups (plan : LanePlan) (phase : Nat) (rotation : GroupIx) (queues : Vector (List Instant) 4) (f : LineFill) :
    Vector (List Instant) 4 × LineFill :=
  (roundOrder rotation).foldl (placeGroup plan phase) (queues, f)

/-- Whether a pass list entry is offered: not a sound packet of a group that is not in PASS (R39, R113). -/
def offered (plan : LanePlan) (e : PassEntry) : Bool :=
  match e.group with
  | some g => decide (plan.modes[g] = .pass)
  | none => true

/-- The pass list offered in order: the line, and how many entries were displaced (R113). -/
def offerEntries (plan : LanePlan) : List PassEntry → LineFill → LineFill × Nat
  | [], f => (f, 0)
  | e :: rest, f =>
    if offered plan e then
      if e.words.length ≤ f.room then offerEntries plan rest (place e.words f)
      else
        let more := offerEntries plan rest f
        (more.1, more.2 + 1)
    else offerEntries plan rest f

/-- A reply as a control reply packet (R26, R114). -/
def replyPacket (r : Reply) : List Word :=
  buildPacket 0x5B r.payload

/-- The reply's turn: the oldest reply for the lane placed and taken off the queue when it fits (R114). -/
def offerReply (n : LaneIx) (replies : List Reply) (f : LineFill) : List Reply × LineFill :=
  match oldestReply (laneScope n) replies with
  | some r =>
    if (replyPacket r).length ≤ f.room then (dropOldestReply (laneScope n) replies, place (replyPacket r) f)
    else (replies, f)
  | none => (replies, f)

/-- What the low class leaves: the line, the reply queue, the displaced entries (R113, R114). -/
structure LowClass where
  fill : LineFill
  replies : List Reply
  displaced : Nat
  deriving DecidableEq, Repr

/-- The low class, the reply before or after the entries as the reply turn gives (R113, R114). -/
def lowClass (n : LaneIx) (l : Lane) (passList : List PassEntry) (replies : List Reply) (f : LineFill) : LowClass :=
  match l.replyTurn with
  | .before =>
    let r := offerReply n replies f
    let e := offerEntries l.plan passList r.2
    ⟨e.1, r.1, e.2⟩
  | .after =>
    let e := offerEntries l.plan passList f
    let r := offerReply n replies e.1
    ⟨r.2, r.1, e.2⟩

/-- The finished blanking content: the packets from the first word, then filler to the end of the space (R18, R109). -/
def lineContent (packets : List (List Word)) (space : Nat) : List Word :=
  packets.flatten ++ List.replicate (space - packets.flatten.length) 0

/-- The other turn. -/
def otherTurn : ReplyTurn → ReplyTurn
  | .before => .after
  | .after => .before

/-- The end of a build: queues, rotation pointer, reply turn, displaced count, output, pass list discarded (R46, R113,
R115). -/
def finishBuild (queues : Vector (List Instant) 4) (waiting : Bool) (low : LowClass) (space : Nat) (l : Lane) : Lane :=
  { l with
    queues := queues
    rotation := l.rotation + 1
    replyTurn := if waiting then otherTurn l.replyTurn else l.replyTurn
    awaiting := none
    counters := { l.counters with displaced := raise l.counters.displaced low.displaced }
    linkOut := lineContent low.fill.placed space }

/-! ### The lane sample clock of a port (R5, R129) -/

/-- The samples of a lane's clock reach the ports it clocks (R5, R130). -/
def laneSamples (n : LaneIx) (count : Nat) (s : State) : State :=
  s.updatePorts fun _ x => if x.clock = .lane n then clockSamples count x else x

/-! ### The build (R109) -/

/-- n_j of the line awaiting build on a lane (R103, R104). -/
def lineCountOf (s : State) (n : LaneIx) (j : Nat) : Nat :=
  match s.lanes[n].format with
  | some f => lineSamples (frameSamples f s.ref.phase[n].val) j
  | none => 0

/-- The placement of a line after its reads: mark, groups, low class, and the end of the build (R109 to R115). -/
def placeLine (n : LaneIx) (a : AwaitingBuild) (s : State) : State :=
  let l := s.lanes[n]
  let marked := placeMark s.ref n a.line ⟨budgetInForce l, []⟩
  let grouped := placeGroups l.plan (phaseField l s.ref.phase[n]) l.rotation l.queues marked
  let low := lowClass n l a.passList s.replies grouped.2
  let waiting := (oldestReply (laneScope n) s.replies).isSome
  { (s.modifyLane n (finishBuild grouped.1 waiting low a.blanking.length)).modifyRef (clearPlacedMark n a.line) with
    replies := low.replies }

/-- The build of output line j: reads, placement, then the line's samples of the lane sample clock within this event,
but for one held behind a port frame (R5, R108, R109; log entry 32). -/
def buildLine (n : LaneIx) (a : AwaitingBuild) (s : State) : State :=
  let count := lineCountOf s n a.line
  laneSamples n count (placeLine n a (lineReads n count s))

/-- The build event of a LOCKED lane whose next line is parsed; otherwise there is no line to build (R7, R109). -/
def outputLineBuild (n : LaneIx) (s : State) : State :=
  match s.lanes[n].inputState, s.lanes[n].awaiting with
  | .locked, some a => buildLine n a s
  | _, _ => s

/-- OUTPUT_LINE_BUILD. -/
def execOutputLineBuild (n : LaneIx) (s : State) : Host.Outcome State Fault Refusal :=
  powered s (outputLineBuild n)

end Sys2Proof.Machine
end

