-- ==== Sys2Proof/Machine/Ports.lean ====
section
/-! DEFINITION. Sound port events (08): receiving, staging, the absence timeout, port frames and periods, stall and resume. -/

namespace Sys2Proof.Machine

/-! ### Receiving (R122) -/

/-- A word delivered by the link: accepted below 2048 words, held back by the link's flow control at 2048, discarded while
receive is disabled (R122). -/
def receiveWord (w : PortWord) (x : Port) : Port :=
  if x.receiveEnable ∧ x.inFifo.length < 2048 then { x with inFifo := x.inFifo ++ [w] } else x

/-- PORT_WORD_RECEIVED. -/
def execPortWordReceived (p : PortIx) (w : PortWord) (s : State) : Host.Outcome State Fault Refusal :=
  powered s fun s => s.modifyPort p (receiveWord w)

/-! ### Staging (R123 to R126) -/

/-- The staging of a port set. -/
def setStaging (p : PortIx) (g : Staging) (s : State) : State :=
  s.modifyPort p fun x => { x with staging := g }

/-- A discarded bundle counted (R123, R124). -/
def countDiscard (p : PortIx) (s : State) : State :=
  s.modifyPort p fun x => { x with counters := { x.counters with discarded := raise x.counters.discarded 1 } }

/-- A body word added: the body is held up to 1024 words, words beyond are counted (R123). -/
def extendBody (words : List Word) (length : Nat) (w : Word) : List Word × Nat :=
  (if length < 1024 then words ++ [w] else words, length + 1)

/-- Whether a good bundle's count leaves a gap after the channel's previous one (R125). -/
def bundleGap (prev : Option Byte) (count : Byte) : Bool :=
  match prev with
  | some c => decide (count ≠ c + 1)
  | none => false

/-- A good sound bundle: appends, presence, gap check, timer, as one event (R125). An expiry of the timer that has already
fallen due stays due (R61, R127). -/
def goodBundle (p : PortIx) (c : ChanIx) (count : Byte) (n : Nat) (body : List Word) (s : State) : State :=
  let gap := bundleGap s.ports[p].prevCount[c] count
  let taken (t : Fin 8) (x : Source) :=
    let x := becomePresent (appendSamples x (bodySamples n body t))
    { x with gaps := raise x.gaps (bitNat gap) }
  (updateChannel p c taken s).modifyPort p fun x =>
    { x with
      prevCount := modifyAt x.prevCount c fun _ => some count
      absence := modifyAt x.absence c fun _ => some 0 }

/-- A control bundle: handed to the control unit when addressed to this part or broadcast, else dropped (R126). -/
def controlBundleTaken (p : PortIx) (body : List Word) (s : State) : State :=
  if toThisUnit s body ∨ isBroadcast body then handOver (portScope p) body s else s

/-- A bundle closed in BODY by END, judged (R124). -/
def judgeBundle (p : PortIx) (channel : Nat) (count : Byte) (n : Nat) (words : List Word) (length : Nat) (s : State) :
    State :=
  if h : channel < 4 then
    if 1 ≤ n ∧ n ≤ 64 ∧ length = 16 * n then goodBundle p ⟨channel, h⟩ count n words s else countDiscard p s
  else if channel = 7 then
    if 2 ≤ length ∧ length ≤ 255 then controlBundleTaken p words s else countDiscard p s
  else countDiscard p s

/-- A word taken in IDLE (R123). -/
def stageIdle (p : PortIx) (w : PortWord) (s : State) : State :=
  if w.marker then
    match readMarker w.data with
    | .start c => setStaging p (.header c) s
    | _ => s
  else s

/-- A word taken in HEADER (R123): bit 7 of the header word is ignored (R29). -/
def stageHeader (p : PortIx) (channel : Nat) (w : PortWord) (s : State) : State :=
  if w.marker then
    match readMarker w.data with
    | .start c => setStaging p (.header c) (countDiscard p s)
    | _ => setStaging p .idle (countDiscard p s)
  else setStaging p (.body channel (hiByte w.data) (field w.data 0 7) [] 0) s

/-- A word taken in BODY (R123, R124). -/
def stageBody (p : PortIx) (channel : Nat) (count : Byte) (n : Nat) (words : List Word) (length : Nat) (w : PortWord)
    (s : State) : State :=
  if w.marker then
    match readMarker w.data with
    | .start c => setStaging p (.header c) (countDiscard p s)
    | .finish => judgeBundle p channel count n words length (setStaging p .idle s)
    | .errorEnd => countDiscard p (setStaging p .idle s)
  else
    let more := extendBody words length w.data
    setStaging p (.body channel count n more.1 more.2) s

/-- The staging takes a word by its own state (R123). -/
def stageWord (p : PortIx) (w : PortWord) (s : State) : State :=
  match s.ports[p].staging with
  | .idle => stageIdle p w s
  | .header c => stageHeader p c w s
  | .body c count n words length => stageBody p c count n words length w s

/-- The oldest word of the in FIFO is taken, when there is one and receive is enabled (R123). -/
def takeStagingWord (p : PortIx) (s : State) : State :=
  match s.ports[p].receiveEnable, s.ports[p].inFifo with
  | true, w :: rest => stageWord p w (s.modifyPort p fun x => { x with inFifo := rest })
  | _, _ => s

/-- STAGING_WORD_TAKEN. -/
def execStagingWordTaken (p : PortIx) (s : State) : Host.Outcome State Fault Refusal :=
  powered s (takeStagingWord p)

/-! ### Absence timeout (R127) -/

/-- A timer after its timeout is taken: stopped, unless a bundle has restarted it since the timeout fell due (R61, R127;
log entry 19). -/
def timerAfterTimeout (timer : Option Nat) : Option Nat :=
  match timer with
  | some t => if t < 2048 then some t else none
  | none => none

/-- The timeout of a channel: its eight sources absent, the expiry due no more (R60, R127). -/
def absenceTimeout (p : PortIx) (c : ChanIx) (s : State) : State :=
  (updateChannel p c (fun _ x => becomeAbsent x) s).modifyPort p fun x =>
    { x with
      absence := modifyAt x.absence c timerAfterTimeout
      absenceDue := modifyAt x.absenceDue c fun _ => false }

/-- CHANNEL_ABSENCE_TIMEOUT. -/
def execChannelAbsenceTimeout (p : PortIx) (c : ChanIx) (s : State) : Host.Outcome State Fault Refusal :=
  powered s (absenceTimeout p c)

/-! ### Port frames (R129) -/

/-- A port frame: a pending take applied, channels start and stop, the check run; then a sample of the same clock that was
held behind the frame falls (R5, R73, R84, R129, R136, R159; log entry 32). -/
def portFrame (p : PortIx) (s : State) : State :=
  (boundary (portScope p) id (s.modifyPort p fun x => { x with frameDue := false })).modifyPort p (clockSamples 0)

/-- PORT_FRAME. -/
def execPortFrame (p : PortIx) (s : State) : Host.Outcome State Fault Refusal :=
  powered s (portFrame p)

/-! ### Port periods (R133 to R135) -/

/-- The 128 samples of a channel's period: 16 instants of tracks 0 to 7 (R133, R134). -/
def periodSamples (s : State) (p : PortIx) (c : ChanIx) : List OutSample :=
  let outs (t : Fin 8) :=
    (readMany s.sources s.entries[portTrack p c t] 16 s.dests[portTrack p c t]).2
  (List.range 16).flatMap fun i => (List.finRange 8).map fun t => (outs t).getD i ⟨0, false⟩

/-- Free places of an out FIFO (R134). -/
def freePlaces (fifo : List PortWord) : Nat :=
  2048 - fifo.length

/-- What is written of a sound bundle into `free` places: all of it, a truncated run closed by ERROR END, or nothing
(R134). -/
def fitBundle (free : Nat) (bundle : List PortWord) : List PortWord :=
  if 259 ≤ free then bundle
  else if 3 ≤ free then bundle.take (free - 1) ++ [errorEndWord]
  else []

/-- A sound bundle written, with its counters (R134). -/
def writeBundle (bundle : List PortWord) (x : Port) : Port :=
  let free := freePlaces x.outFifo
  { x with
    outFifo := x.outFifo ++ fitBundle free bundle
    counters := { x.counters with
      truncated := raise x.counters.truncated (bitNat (decide (3 ≤ free ∧ free < 259)))
      skipped := raise x.counters.skipped (bitNat (decide (free < 3))) } }

/-- One channel's turn in a period: its sound bundle written when it runs (R133, R134). -/
def writeChannel (s : State) (p : PortIx) (x : Port) (c : ChanIx) : Port :=
  if x.running[c] then writeBundle (soundBundle c x.nextCount (periodSamples s p c)) x else x

/-- The sound bundles of a period, in rising order of channel (R133). -/
def writeChannels (s : State) (p : PortIx) (x : Port) : Port :=
  (List.finRange 4).foldl (writeChannel s p) x

/-- Every destination of a running channel makes its 16 reads, whatever is written (R133, R134). -/
def periodReads (p : PortIx) (s : State) : State :=
  s.updateDests fun d r =>
    if trackPlace d = .port p ∧ s.ports[p].running[trackChannel d] then
      (readMany s.sources s.entries[d] 16 r).1
    else r

/-- The oldest reply for the port written as a control bundle when it fits (R135). -/
def writeReply (p : PortIx) (s : State) : State :=
  match oldestReply (portScope p) s.replies with
  | some r =>
    if (controlBundle r.payload).length ≤ freePlaces s.ports[p].outFifo then
      { s.modifyPort p fun x => { x with outFifo := x.outFifo ++ controlBundle r.payload } with
        replies := dropOldestReply (portScope p) s.replies }
    else s
  | none => s

/-- The next transmit bundle count rises by one, modulo 256 (R133). -/
def countPeriod (p : PortIx) (s : State) : State :=
  s.modifyPort p fun x => { x with nextCount := x.nextCount + 1 }

/-- A port period by the transmit state (R133). -/
def portPeriod (p : PortIx) (s : State) : State :=
  match s.ports[p].transmit with
  | .running => countPeriod p (writeReply p ((periodReads p s).modifyPort p (writeChannels s p)))
  | .stalled => countPeriod p s
  | .disabled => s

/-- PORT_PERIOD. -/
def execPortPeriod (p : PortIx) (s : State) : Host.Outcome State Fault Refusal :=
  powered s fun s => portPeriod p (s.modifyPort p fun x => { x with periodDue := false })

/-! ### Stall and resume (R132) -/

/-- The stall of a RUNNING port: STALLED, its channels stop (R84, R131, R132). -/
def stallPort (p : PortIx) (s : State) : State :=
  match s.ports[p].transmit with
  | .running => (haltTransmit p .stalled s).modifyPort p fun x => { x with stallTimer := 48000 }
  | _ => s

/-- TRANSMIT_STALL. -/
def execTransmitStall (p : PortIx) (s : State) : Host.Outcome State Fault Refusal :=
  powered s (stallPort p)

/-- The equipment takes the oldest out FIFO word (R132): the stall timer returns to 0 when the FIFO was full, and a STALLED
port with 1024 or fewer words left is RUNNING again with the timer 0. A stall that has fallen due is forgotten with the timer
when a word is taken first (log entry 31). -/
def giveWord (x : Port) : Port :=
  match x.outFifo with
  | [] => x
  | w :: rest =>
    let resumes := decide (x.transmit = .stalled) && decide (rest.length ≤ 1024)
    { x with
      outFifo := rest
      linkOut := some w
      stallTimer := if resumes || decide (2048 ≤ x.outFifo.length) then 0 else x.stallTimer
      transmit := if resumes then .running else x.transmit }

/-- OUT_FIFO_WORD_TAKEN. -/
def execOutFifoWordTaken (p : PortIx) (s : State) : Host.Outcome State Fault Refusal :=
  powered s fun s => s.modifyPort p giveWord

end Sys2Proof.Machine
end

