-- ==== Sys2Proof/Machine/Power.lean ====
section
/-! DEFINITION. Power-on reset (R17, R172, R173) and the station clock (R127, R129, R132, R154; log entry 2). -/

namespace Sys2Proof.Machine

/-! ### Power-on reset -/

/-- POWER_ON_RESET_ASSERT: every lane output carries its input in bypass while it is held (R17). A line parsed but not yet
built then never leaves (log entry 33). -/
def execPowerOnResetAssert (s : State) : Host.Outcome State Fault Refusal :=
  .next { s with resetHeld := true }

/-- A lane at the release: its power-on values; with signal on its link it enters ACQUIRING at once (R17). -/
def releaseLane (l : Lane) : Lane :=
  if l.linkSignal then acquireLane { Lane.powerOn with linkSignal := true } else Lane.powerOn

/-- The part at the release of power-on reset, with the straps as read (R172, R173). -/
def releaseReset (straps : Straps) (s : State) : State :=
  { State.powerOn straps with
    pending := s.pending
    lanes := updateAll s.lanes fun _ l => releaseLane l }

/-- POWER_ON_RESET_RELEASE. -/
def execPowerOnResetRelease (unitAddress : BitVec 7) (role : Role) (refLane : LaneIx) (s : State) :
    Host.Outcome State Fault Refusal :=
  .next (releaseReset ⟨unitAddress, role, refLane⟩ s)

/-! ### The station clock -/

/-- An absence timer at a station-clock sample (R127). -/
def tickTimer (timer : Option Nat) : Option Nat :=
  timer.map fun t => min 2048 (t + 1)

/-- Whether an absence timer expires at a station-clock sample (R127). -/
def timerExpires (timer : Option Nat) : Bool :=
  decide (tickTimer timer = some 2048)

/-- The stall timer at a station-clock sample (R132): it rises while transmit is RUNNING and the out FIFO is full. -/
def tickStall (x : Port) : Nat :=
  if x.transmit = .running ∧ 2048 ≤ x.outFifo.length then min 48000 (x.stallTimer + 1) else x.stallTimer

/-- A port at a station-clock sample (R127, R129, R132). -/
def tickPort (x : Port) : Port :=
  let ticked :=
    { x with
      absence := x.absence.map tickTimer
      absenceDue := updateAll x.absenceDue fun c due => due || timerExpires x.absence[c]
      stallTimer := tickStall x }
  if x.clock = .station then advancePort ticked else ticked

/-- The take at a station-clock sample: an OPEN one's expiry count rises (R154). -/
def tickTake (t : Take) : Take :=
  if t.state = .opened then { t with expiry := min 96000 (t.expiry + 1) } else t

/-- One sample of the station clock. -/
def stationSample (s : State) : State :=
  { s with
    ports := updateAll s.ports fun _ x => tickPort x
    take := s.take.map tickTake }

/-- The steps of a port that have fallen due: absence timeouts (R127), a word for the staging whenever an enabled in FIFO holds
one (R123), the stall (R132; log entry 31), the port frame before the port period (R129). Their order is log entry 2's. -/
def portDue (p : PortIx) (x : Port) : List Instr :=
  ((List.finRange 4).filter fun c => x.absenceDue[c]).map (.channelAbsenceTimeout p)
  ++ (if x.receiveEnable ∧ x.inFifo ≠ [] then [.stagingWordTaken p] else [])
  ++ (if x.transmit = .running ∧ x.stallTimer = 48000 then [.transmitStall p] else [])
  ++ (if x.frameDue then [.portFrame p] else [])
  ++ (if x.periodDue then [.portPeriod p] else [])

/-- The expiry of an OPEN take that has fallen due (R154). -/
def takeDue (take : Option Take) : List Instr :=
  match take with
  | some t => if t.state = .opened ∧ t.expiry = 96000 then [.takeExpiry] else []
  | none => []

/-- The steps that have fallen due on the part's own clocks and ports. -/
def dueSteps (s : State) : List Instr :=
  portDue 0 s.ports[0] ++ portDue 1 s.ports[1] ++ takeDue s.take

end Sys2Proof.Machine
end

