-- ==== Sys2Proof/Machine/Dispatch.lean ====
section
/-! DEFINITION. One arm per command; each calls its own meaning. -/

namespace Sys2Proof.Machine

/-- A command's effect on everything but the queue. -/
def exec (i : Instr) (s : State) : Host.Outcome State Fault Refusal :=
  match i with
  | .powerOnResetAssert => Sys2Proof.Machine.execPowerOnResetAssert s
  | .powerOnResetRelease unitAddress role refLane => Sys2Proof.Machine.execPowerOnResetRelease unitAddress role refLane s
  | .linkSignalAppears lane => Sys2Proof.Machine.execLinkSignalAppears lane s
  | .linkSignalLost lane => Sys2Proof.Machine.execLinkSignalLost lane s
  | .frameStart lane timing => Sys2Proof.Machine.execFrameStart lane timing s
  | .inputCarriageLine lane blanking => Sys2Proof.Machine.execInputCarriageLine lane blanking s
  | .outputFrameStart lane => Sys2Proof.Machine.execOutputFrameStart lane s
  | .outputLineBuild lane => Sys2Proof.Machine.execOutputLineBuild lane s
  | .portWordReceived port word => Sys2Proof.Machine.execPortWordReceived port word s
  | .stagingWordTaken port => Sys2Proof.Machine.execStagingWordTaken port s
  | .channelAbsenceTimeout port channel => Sys2Proof.Machine.execChannelAbsenceTimeout port channel s
  | .portFrame port => Sys2Proof.Machine.execPortFrame port s
  | .portPeriod port => Sys2Proof.Machine.execPortPeriod port s
  | .transmitStall port => Sys2Proof.Machine.execTransmitStall port s
  | .outFifoWordTaken port => Sys2Proof.Machine.execOutFifoWordTaken port s
  | .readRoute iface tag params => Sys2Proof.Machine.execReadRoute iface tag params s
  | .readRouteState iface tag params => Sys2Proof.Machine.execReadRouteState iface tag params s
  | .readSource iface tag params => Sys2Proof.Machine.execReadSource iface tag params s
  | .readLane iface tag params => Sys2Proof.Machine.execReadLane iface tag params s
  | .readPort iface tag params => Sys2Proof.Machine.execReadPort iface tag params s
  | .readReference iface tag params => Sys2Proof.Machine.execReadReference iface tag params s
  | .readTake iface tag params => Sys2Proof.Machine.execReadTake iface tag params s
  | .readDevice iface tag params => Sys2Proof.Machine.execReadDevice iface tag params s
  | .setSource iface tag params => Sys2Proof.Machine.execSetSource iface tag params s
  | .setReference iface tag params => Sys2Proof.Machine.execSetReference iface tag params s
  | .setPort iface tag params => Sys2Proof.Machine.execSetPort iface tag params s
  | .clearCounters iface tag params => Sys2Proof.Machine.execClearCounters iface tag params s
  | .resetUnit iface tag params => Sys2Proof.Machine.execResetUnit iface tag params s
  | .openTake iface tag params => Sys2Proof.Machine.execOpenTake iface tag params s
  | .setRoute iface tag params => Sys2Proof.Machine.execSetRoute iface tag params s
  | .setPlan iface tag params => Sys2Proof.Machine.execSetPlan iface tag params s
  | .commitTake iface tag params => Sys2Proof.Machine.execCommitTake iface tag params s
  | .abandonTake iface tag params => Sys2Proof.Machine.execAbandonTake iface tag params s
  | .undoTake iface tag params => Sys2Proof.Machine.execUndoTake iface tag params s
  | .unknownRequestKind iface kind tag params => Sys2Proof.Machine.execUnknownRequestKind iface kind tag params s
  | .takeExpiry => Sys2Proof.Machine.execTakeExpiry s

end Sys2Proof.Machine
end

