-- ==== Sys2Proof/Machine/Step.lean ====
section
/-! DEFINITION. One step: the command at the front of the queue; on an empty queue a step that has fallen due on the part's
own clocks or ports, else one sample of the station clock (DESIGN CHOICE, log entry 2). -/

namespace Sys2Proof.Machine

/-- What happens on an empty queue. While power-on reset is held the clocks are still (log entry 3). -/
def idleStep (s : State) : Host.Outcome State Fault Refusal :=
  if s.resetHeld then .next s
  else
    match dueSteps s with
    | c :: _ => exec c s
    | [] => .next (stationSample s)

/-- One step of the part. -/
def step (s : State) : Host.Outcome State Fault Refusal :=
  match s.pending with
  | c :: rest => exec c { s with pending := rest }
  | [] => idleStep s

/-- The state with the command that a word spells at the front of its queue; no word spells one (log entry 29). -/
def State.withFetchWord (s : State) (nbits w : Nat) : State :=
  match decodeTableWord nbits w with
  | some c => { s with pending := c :: s.pending }
  | none => s

end Sys2Proof.Machine
end

