-- ==== Sys2Proof/Safety.lean ====
section
/-! DEFINITION. What holds between steps, as invariants of State: the ranges the manual gives each piece of state, and the
relations its rules state between blocks. -/

namespace Sys2Proof.Machine

/-! ### Source table (R50 to R55, R60) -/

/-- A source record within its ranges: the runs move together from a presence, and an absent source has none (R54, R55). -/
def Source.sound (x : Source) : Bool :=
  Memory.wf x.buffer
    && decide (x.silenceLevel ≤ 32767 ∧ x.peak ≤ 32767 ∧ x.validSpan ≤ 8192 ∧ x.blockPosition < 64)
    && decide (x.presentRun ≤ 512 ∧ x.silentRun ≤ x.presentRun ∧ x.activeRun ≤ x.presentRun)
    && decide (x.silentRun = 0 ∨ x.activeRun = 0)
    && (x.present || decide (x.presentRun = 0 ∧ x.blockPosition = 0 ∧ x.blockLoud = false))

/-- Every source record is within its ranges and every buffer is in canonical form. -/
abbrev State.sourcesSound (s : State) : Prop :=
  ∀ i : SourceIx, (s.sources[i]).sound = true

/-! ### Queues (R107, R121, R158, R164) -/

/-- Every queue of the part is within its bound: 8 instants of a carry queue, 2048 words of a port FIFO, 6 undo records of
a scope, 8 replies. -/
abbrev State.queuesBounded (s : State) : Prop :=
  (∀ (n : LaneIx) (g : GroupIx), (s.lanes[n].queues[g]).length ≤ 8)
    ∧ (∀ p : PortIx, (s.ports[p]).inFifo.length ≤ 2048 ∧ (s.ports[p]).outFifo.length ≤ 2048)
    ∧ (∀ i : Iface, (s.undo[i]).length ≤ 6)
    ∧ s.replies.length ≤ 8

/-! ### Committed, latched and undone entries and plans (R12, R66, R149, R158) -/

/-- A route entry as R66 bounds it. -/
def RouteEntry.sound (e : RouteEntry) : Bool :=
  decide (e.candidates.length ≤ 4 ∧ e.candidates.Nodup ∧ 128 ≤ e.delay ∧ e.delay ≤ 6000)
    && (!e.enabled || !e.candidates.isEmpty)

/-- A lane plan's budget is absent or 32 to 256 (R12). -/
def LanePlan.sound (p : LanePlan) : Bool :=
  p.budget.all fun b => decide (32 ≤ b ∧ b ≤ 256)

/-- A plan that fits a scope: a lane plan for a lane, a port plan for a port. -/
def ScopePlan.fits (plan : ScopePlan) (scope : Iface) : Bool :=
  match plan, ifacePlace scope with
  | .lane p, .lane _ => p.sound
  | .port _, .port _ => true
  | _, _ => false

/-- Entries held for destinations of one scope, at most one each, by rising destination. -/
def latchesFit (latches : List (DestIx × RouteEntry)) (scope : Iface) : Bool :=
  decide ((latches.map Prod.fst).Pairwise (· < ·))
    && latches.all fun c => decide (trackScope c.1 = scope) && c.2.sound

/-- Every committed entry and lane plan, and every one that a take or an undo record holds, is one that could be committed
on its scope. -/
abbrev State.entriesSound (s : State) : Prop :=
  (∀ d : DestIx, (s.entries[d]).sound = true)
    ∧ (∀ n : LaneIx, (s.lanes[n]).plan.sound = true)
    ∧ (∀ t ∈ s.take, latchesFit t.latches t.scope = true ∧ ∀ plan ∈ t.plan, plan.fits t.scope = true)
    ∧ ∀ i : Iface, ∀ u ∈ s.undo[i], latchesFit u.entries i = true ∧ ∀ plan ∈ u.plan, plan.fits i = true

/-! ### Live records (R68, R70, R85) -/

/-- A live record fits its committed entry: an old stream exists only while a fade is in flight; IDLE means disabled,
with last output sample 0 where no fade is in flight (R98; log entries 8 and 30); a PARKED record holds nothing; an ACTIVE one reads the source of its active candidate; a FILLING one reads a fill (R68,
R70, R85). -/
def LiveRecord.fits (r : LiveRecord) (e : RouteEntry) : Bool :=
  decide (r.fade ≤ 32 ∧ (r.fade = 32 ↔ r.old = none))
    && match r.state with
      | .idle => !e.enabled && r.active.isNone && (decide (r.current = none ∨ r.current = some (.fill .silence)))
        && decide (r.fade = 32 → r.lastOut = 0)
      | .parked => e.enabled && decide (r = { LiveRecord.powerOn with state := .parked, counters := r.counters })
      | .active =>
        e.enabled && (match r.active, r.sourceStream with
          | some a, some st => decide (e.candidates[a]? = some st.source)
          | _, _ => false)
      | .filling =>
        e.enabled && r.active.isNone && (match r.current with
          | some (.fill _) => true
          | _ => false)

/-- Every live record fits its committed entry. -/
abbrev State.recordsFit (s : State) : Prop :=
  ∀ d : DestIx, (s.dests[d]).fits s.entries[d] = true

/-! ### Output sides (R83 to R85, R157) -/

/-- Groups and channels run only where they may, a destination is PARKED exactly where an enabled one must be, and nothing
fades where nothing runs (R68, R83 to R85). -/
abbrev State.outputsConsistent (s : State) : Prop :=
  (∀ (n : LaneIx) (g : GroupIx), (s.lanes[n]).running[g] = true →
      (s.lanes[n]).inputState = .locked ∧ embeds (s.lanes[n]).plan.modes[g] = true)
    ∧ (∀ (p : PortIx) (c : ChanIx), (s.ports[p]).running[c] = true →
      (s.ports[p]).transmit = .running ∧ (s.ports[p]).plan.channels[c] = true)
    ∧ ∀ d : DestIx,
      if outputRuns s d then (s.dests[d]).state ≠ .parked
      else (s.dests[d]).state ≠ .active ∧ (s.dests[d]).state ≠ .filling ∧ (s.dests[d]).fade = 32

/-! ### Lanes (R1, R2, R14, R32, R107) -/

/-- Nothing of a LOCKED lane's sound state is held while the lane is not LOCKED (R14, R32). -/
def Lane.quiet (l : Lane) : Bool :=
  decide (l.queues = Vector.replicate 4 [] ∧ l.rotation = 0 ∧ l.replyTurn = .before ∧ l.seen = Vector.replicate 4 false
    ∧ l.awaiting = none ∧ l.firstFrame = false)

/-- A lane's input record and sound state by its input state (R1, R2, R14), with the queue of a group empty that is in PASS
or STRIP, or that does not run (R11, R14, R16, R107, R108). -/
def Lane.sound (l : Lane) : Bool :=
  decide (l.lineCount ≤ 1120 ∧ l.passProgress = [])
    && (l.frameOpen || decide (l.lineCount = 0))
    && l.awaiting.all (fun a => decide (a.line < 1120))
    && (List.finRange 4).all (fun g => (embeds l.plan.modes[g] && l.running[g]) || (l.queues[g]).isEmpty)
    && match l.inputState with
      | .noSignal => l.format.isNone && !l.frameOpen && l.quiet
      | .acquiring => l.quiet
      | .locked => l.format.isSome && l.frameOpen

/-- Every lane is sound; outside power-on reset a lane is in NO_SIGNAL exactly when its link has no signal (R1). -/
abbrev State.lanesSound (s : State) : Prop :=
  ∀ n : LaneIx, (s.lanes[n]).sound = true
    ∧ (s.resetHeld = false → ((s.lanes[n]).linkSignal = true ↔ (s.lanes[n]).inputState ≠ .noSignal))

/-! ### Presence (R61) -/

/-- A lane source is present only while its lane is LOCKED; a port source only while receive is enabled and its channel's
timer has been started (R61). -/
abbrev State.presenceSound (s : State) : Prop :=
  (∀ (n : LaneIx) (g : GroupIx) (t : Fin 4), (s.sources[laneTrack n g t]).present = true →
      (s.lanes[n]).inputState = .locked)
    ∧ ∀ (p : PortIx) (c : ChanIx) (t : Fin 8), (s.sources[portTrack p c t]).present = true →
      (s.ports[p]).receiveEnable = true ∧ ((s.ports[p]).absence[c]).isSome = true

/-! ### Ports (R121 to R123, R127 to R130) -/

/-- The open bundle of a staging: at most 7 as channel code, n of 7 bits, and the body held up to 1024 words (R123). -/
def Staging.sound : Staging → Bool
  | .idle => true
  | .header c => decide (c < 8)
  | .body c _ n words length => decide (c < 8 ∧ n < 128 ∧ words.length = min 1024 length)

/-- A port within its ranges; a sample is held only behind a frame of a lane's clock (R5, R136); an expired timer's timeout is
due, and a due timeout has a timer (R127); a disabled receive side holds nothing (R122, R128). -/
def Port.sound (x : Port) : Bool :=
  decide (x.stallTimer ≤ 48000 ∧ x.position < 1024)
    && decide (x.heldSamples = 0 ∨ (x.heldSamples = 1 ∧ x.position = 0 ∧ x.clock ≠ .station))
    && x.staging.sound
    && (List.finRange 4).all (fun c => (x.absence[c]).all fun t => decide (t ≤ 2048))
    && (List.finRange 4).all (fun c => (decide (x.absence[c] ≠ some 2048) || x.absenceDue[c])
      && (!x.absenceDue[c] || (x.absence[c]).isSome))
    && (x.receiveEnable || decide (x.inFifo = [] ∧ x.staging = .idle ∧ x.prevCount = Vector.replicate 4 none
      ∧ x.absence = Vector.replicate 4 none ∧ x.absenceDue = Vector.replicate 4 false))

/-- Every port is within its ranges and runs on the clock its plan gives (R130). -/
abbrev State.portsSound (s : State) : Prop :=
  ∀ p : PortIx, (s.ports[p]).sound = true ∧ (s.ports[p]).clock = clockUnder s (s.ports[p]).plan.clock

/-! ### Frame count unit and take (R141, R143, R145, R154, R157) -/

/-- A pending mark waits only on a LOCKED lane of a FOLLOWER's mark-output set, and a realign flag stands only on a LOCKED
lane (R141, R143, R145). -/
abbrev State.marksSound (s : State) : Prop :=
  ∀ n : LaneIx,
    ((s.ref.pendingMark[n]).isSome = true →
      s.ref.role = .follower ∧ inSet s.ref.markOut n = true ∧ (s.lanes[n]).inputState = .locked)
    ∧ (s.ref.realign[n] = true → (s.lanes[n]).inputState = .locked)

/-- A take waits PENDING only where a boundary is to come: on a LOCKED lane or on a port (R157). Its expiry count is at most
96000. -/
abbrev State.takeSound (s : State) : Prop :=
  ∀ t ∈ s.take, t.expiry ≤ 96000
    ∧ ∀ n : LaneIx, t.state = .pending → t.scope = laneScope n → (s.lanes[n]).inputState = .locked

/-! ### What the statements say, written out -/

/-- The state with one lane put in place of the one it had. -/
def State.putLane (s : State) (n : LaneIx) (l : Lane) : State :=
  { s with lanes := s.lanes.set n.val l n.isLt }

/-- The state with one port put in place of the one it had. -/
def State.putPort (s : State) (p : PortIx) (x : Port) : State :=
  { s with ports := s.ports.set p.val x p.isLt }

/-- The state with one source put in place of the one it had. -/
def State.putSource (s : State) (i : SourceIx) (x : Source) : State :=
  { s with sources := s.sources.set i.val x i.isLt }

/-- The state with one reply at the back of its queue: the status code in the high byte over the strapped unit address, the
tag, the kind, the data (R26). -/
def State.answer (s : State) (i : Iface) (status : Nat) (tag : Word) (kind : Nat) (data : List Word) : State :=
  { s with
    replies := s.replies ++ [{
      iface := i
      payload := BitVec.ofNat 16 (256 * status + s.straps.unitAddress.toNat) :: tag :: BitVec.ofNat 16 kind :: data }] }

/-- The two words of a write or read count in reply data (R27). -/
def countData (c : Count) : List Word :=
  [BitVec.ofNat 16 (c.toNat / 65536), BitVec.ofNat 16 (c.toNat % 65536)]

/-- The two words of a sample in reply data (R27). -/
def sampleData (v : Sample) : List Word :=
  [BitVec.ofNat 16 (v.toNat / 256), BitVec.ofNat 16 (v.toNat % 256 * 256)]

/-- A blanking space that holds one packet and `k` words of filler. -/
def packetLine (packet : List Word) (k : Nat) : List Word :=
  packet ++ List.replicate k 0

/-- A lane that has just parsed a line: the line is counted, and its pass list awaits the build (R31). -/
def Lane.afterLine (l : Lane) (blanking : List Word) (passList : List PassEntry) : Lane :=
  { l with
    lineCount := l.lineCount + 1
    passProgress := []
    awaiting := some { line := l.lineCount, blanking := blanking, passList := passList } }

/-- A LOCKED lane with a line of its open frame still to come. -/
def State.takesLine (s : State) (n : LaneIx) : Prop :=
  s.resetHeld = false ∧ (s.lanes[n]).inputState = .locked ∧ (s.lanes[n]).frameOpen = true
    ∧ (s.lanes[n]).lineCount < 1120

/-- A source reported absent: presence, runs, block and valid span go, the rest is kept (R60). -/
def Source.lostFrom (y x : Source) : Prop :=
  y.present = false ∧ y.validSpan = 0 ∧ y.writeCount = x.writeCount ∧ y.buffer = x.buffer
    ∧ y.lastSample = x.lastSample ∧ y.peak = x.peak ∧ y.silenceLevel = x.silenceLevel ∧ y.dropped = x.dropped
    ∧ y.gaps = x.gaps
    ∧ (x.present = true → y.silentRun = 0 ∧ y.activeRun = 0 ∧ y.presentRun = 0 ∧ y.blockPosition = 0
      ∧ y.blockLoud = false)

/-- A record whose output side has stopped: ACTIVE and FILLING ones are parked, an IDLE one fades no more, a PARKED one is
as it was (R83 to R85). -/
def LiveRecord.stoppedFrom (y x : LiveRecord) : Prop :=
  y.counters = x.counters ∧ match x.state with
    | .idle => y.state = .idle ∧ ¬ y.fade < 32
    | .parked => y = x
    | _ => y.state = .parked ∧ y.active = none ∧ y.current = none ∧ y.old = none ∧ y.fade = 32 ∧ y.lastOut = 0

/-- What lane loss on lane n leaves in sources, ports, frame count unit, other lanes and the lane's own sound state, whether
or not a take is PENDING on the lane (R14, R15, R60, R130, R145). -/
def State.lostBlocks (n : LaneIx) (s t : State) : Prop :=
  (∀ i : SourceIx, if i.val / 16 = n.val then (t.sources[i]).lostFrom s.sources[i] else t.sources[i] = s.sources[i])
    ∧ (∀ p : PortIx, t.ports[p] =
        if (s.ports[p]).clock = .lane n then
          { clockSamples 0 s.ports[p] with
            clock := .station
            counters := { (s.ports[p]).counters with fallbacks := raise (s.ports[p]).counters.fallbacks 1 } }
        else s.ports[p])
    ∧ t.ref = { s.ref with
        pendingMark := s.ref.pendingMark.set n.val none n.isLt
        realign := s.ref.realign.set n.val false n.isLt }
    ∧ (∀ m : LaneIx, m ≠ n → t.lanes[m] = s.lanes[m])
    ∧ (t.lanes[n]).quiet = true ∧ (t.lanes[n]).running = Vector.replicate 4 false ∧ (t.lanes[n]).passProgress = []
    ∧ t.straps = s.straps ∧ t.unanswered = s.unanswered

/-- What lane loss on lane n leaves in every block but the lane's own input record and link output, with no take PENDING on
the lane (R14, R15, R85, R130, R145, R166). -/
def State.lostLane (n : LaneIx) (s t : State) : Prop :=
  s.lostBlocks n t
    ∧ (∀ d : DestIx, if d.val / 16 = n.val then (t.dests[d]).stoppedFrom s.dests[d] else t.dests[d] = s.dests[d])
    ∧ t.replies = s.replies.filter (fun r => decide (r.iface.val ≠ n.val))
    ∧ (t.lanes[n]).plan = (s.lanes[n]).plan
    ∧ (t.lanes[n]).counters = { (s.lanes[n]).counters with
        discardedReplies := raise (s.lanes[n]).counters.discardedReplies
          (s.replies.countP fun r => decide (r.iface.val = n.val)) }
    ∧ t.entries = s.entries ∧ t.take = s.take ∧ t.undo = s.undo ∧ t.droppedApplied = s.droppedApplied

/-- The LEADER's count at an input frame start of lane n, and the flags of its RC event (R139, R145). -/
def State.countedFrame (n : LaneIx) (s t : State) : Prop :=
  if s.ref.role = .leader ∧ s.ref.refLane = n then
    t.ref.count.val = (s.ref.count.val + 1) % 60000
      ∧ t.ref = { s.ref with count := t.ref.count, realign := t.ref.realign }
      ∧ ∀ m : LaneIx, t.ref.realign[m] =
          (s.ref.realign[m] || (decide ((t.lanes[m]).inputState = .locked)
            && decide ((t.lanes[m]).format = (t.lanes[n]).format)))
  else t.ref = s.ref

/-- What a take's application leaves of the committed entries: the latched one, else the one before (R159). -/
def Take.entryFor (k : Take) (d : DestIx) (e : RouteEntry) : RouteEntry :=
  ((k.latches.find? fun c => decide (c.1 = d)).map Prod.snd).getD e

/-- The budget in force on a lane of format f (R12). -/
def Lane.budgetOn (l : Lane) (f : Format) : Nat :=
  l.plan.budget.getD (if f = .f50 ∨ f = .f59 ∨ f = .f60 then 128 else 256)

/-- No group of a lane is in an EMBED mode. -/
def Lane.embedsNothing (l : Lane) : Prop :=
  ∀ g : GroupIx, l.plan.modes[g] = .pass ∨ l.plan.modes[g] = .strip

/-- A LOCKED lane of format f with a line to build. -/
def State.buildsLine (s : State) (n : LaneIx) (f : Format) (a : AwaitingBuild) : Prop :=
  s.resetHeld = false ∧ (s.lanes[n]).inputState = .locked ∧ (s.lanes[n]).format = some f
    ∧ (s.lanes[n]).awaiting = some a

/-- No reply of the queue is for this interface. -/
def State.noReplyFor (s : State) (i : Nat) : Prop :=
  ∀ r ∈ s.replies, r.iface.val ≠ i

/-- What every build of a lane's line leaves besides its content: the rotation pointer one on, the reply turn flipped where a
reply was waiting, no line awaiting, and the ports that the lane clocks moved by the line's samples (R5, R115). -/
def Lane.afterBuild (l : Lane) (waiting : Bool) (displaced : Nat) (content : List Word) : Lane :=
  { l with
    rotation := l.rotation + 1
    replyTurn := if waiting then (if l.replyTurn = .before then .after else .before) else l.replyTurn
    awaiting := none
    counters := { l.counters with displaced := raise l.counters.displaced displaced }
    linkOut := content }

/-- The content of a blanking space of `space` words that begins with `words` (R18). -/
def paddedLine (words : List Word) (space : Nat) : List Word :=
  words ++ List.replicate (space - words.length) 0

/-- The ports after a line of `count` samples on lane n (R5, R129). -/
def State.clockedBy (n : LaneIx) (count : Nat) (s : State) : Vector Port 2 :=
  updateAll s.ports fun _ x => if x.clock = .lane n then clockSamples count x else x

/-- The samples per track of line j of a lane of format f (R103, R104). -/
def State.samplesOn (s : State) (n : LaneIx) (f : Format) (j : Nat) : Nat :=
  lineSamples (frameSamples f (s.ref.phase[n]).val) j

/-- The reply queue and the dropped APPLIED replies counter after a take's APPLIED reply is queued, or dropped because the
owner is a lane that is not LOCKED or the queue is full (R160, R165). -/
def State.applied (s : State) (k : Take) : State :=
  if (8 ≤ k.owner.val ∨ ∃ m : LaneIx, m.val = k.owner.val ∧ (s.lanes[m]).inputState = .locked) ∧ s.replies.length < 8 then
    s.answer k.owner 2 k.tag (if k.origin = .commit then 0x23 else 0x25) [BitVec.ofNat 16 s.ref.count.val]
  else { s with droppedApplied := raise s.droppedApplied 1 }

/-- What the application of a take leaves of committed entries, undo stacks, reply queue and take (R158 to R160); `plan` is
the scope's committed plan before. -/
def State.tookTake (s t : State) (k : Take) (plan : ScopePlan) : Prop :=
  t.take = none
    ∧ (∀ d : DestIx, t.entries[d] = k.entryFor d s.entries[d])
    ∧ (∀ i : Iface, t.undo[i] =
        if i = k.scope ∧ k.origin = .commit ∧ (k.latches ≠ [] ∨ k.plan ≠ none) then
          ({ entries := k.latches.map fun c => (c.1, s.entries[c.1]), plan := k.plan.map fun _ => plan } ::
            s.undo[i]).take 6
        else s.undo[i])
    ∧ t.replies = (s.applied k).replies ∧ t.droppedApplied = (s.applied k).droppedApplied
    ∧ t.sources = s.sources ∧ t.straps = s.straps ∧ t.unanswered = s.unanswered ∧ t.resetHeld = s.resetHeld

/-- Whether a latched destination's record has acted on its new entry: IDLE when disabled; otherwise ACTIVE or FILLING where
its output side runs, PARKED where it does not (R86 to R88, R159). -/
def State.latchedActed (t : State) (k : Take) : Prop :=
  ∀ d : DestIx, (∃ c ∈ k.latches, c.1 = d) →
    if (t.entries[d]).enabled then
      if outputRuns t d then (t.dests[d]).state = .active ∨ (t.dests[d]).state = .filling
      else (t.dests[d]).state = .parked
    else (t.dests[d]).state = .idle

/-- What the application of a take does to each latched destination of its scope (R86 to R88, R159): it acts once on its new
entry, from the record it had, or from that record stopped where its output side does not run after the application. -/
def State.latchedEntered (s t : State) (k : Take) : Prop :=
  ∀ d : DestIx, trackScope d = k.scope → (∃ c ∈ k.latches, c.1 = d) →
    ∃ r : LiveRecord, (if outputRuns t d then r = s.dests[d] else r.stoppedFrom s.dests[d])
      ∧ t.dests[d] = enterEntry t.sources (s.entries[d]).delay t.entries[d] (outputRuns t d) r

/-- What lane loss on lane n leaves where the take k is PENDING on the lane: k is applied after the groups have stopped and the
sources are absent, and before the replies are purged, its APPLIED reply among them (R14, R15, R85, R157 to R160, R165,
R166). -/
def State.lostLaneTaking (n : LaneIx) (k : Take) (s t : State) : Prop :=
  s.lostBlocks n t ∧ t.take = none
    ∧ (∀ d : DestIx, t.entries[d] = k.entryFor d s.entries[d])
    ∧ (t.lanes[n]).plan = (match k.plan with
        | some (.lane new) => new
        | _ => (s.lanes[n]).plan)
    ∧ (∀ d : DestIx, (∀ c ∈ k.latches, c.1 ≠ d) →
        if d.val / 16 = n.val then (t.dests[d]).stoppedFrom s.dests[d] else t.dests[d] = s.dests[d])
    ∧ t.latchedActed k ∧ s.latchedEntered t k
    ∧ t.replies = (s.applied k).replies.filter (fun r => decide (r.iface.val ≠ n.val))
    ∧ t.droppedApplied = (s.applied k).droppedApplied
    ∧ (t.lanes[n]).counters = { (s.lanes[n]).counters with
        discardedReplies := raise (s.lanes[n]).counters.discardedReplies
          ((s.applied k).replies.countP fun r => decide (r.iface.val = n.val)) }
    ∧ ∀ i : Iface, t.undo[i] =
        if i = k.scope ∧ k.origin = .commit ∧ (k.latches ≠ [] ∨ k.plan ≠ none) then
          ({ entries := k.latches.map fun c => (c.1, s.entries[c.1])
             plan := k.plan.map fun _ => .lane (s.lanes[n]).plan } :: s.undo[i]).take 6
        else s.undo[i]

/-- The grants of one round over EMBED groups (R111, R112): each in turn takes the most instants, up to 4, whose packet of
4 + 4·w·m words fits into what the ones before have left; PASS and STRIP groups take nothing. -/
def roundGrants (plan : LanePlan) (depth : GroupIx → Nat) : List GroupIx → Nat → List (GroupIx × Nat)
  | [], _ => []
  | g :: rest, room =>
    let w := match plan.modes[g] with
      | .embedFull => 2
      | .embedCompact => 1
      | _ => 0
    let m := if w = 0 then 0 else min (depth g) (min 4 ((room - 4) / (4 * w)))
    (g, m) :: roundGrants plan depth rest (if m = 0 then room else room - (4 + 4 * w * m))

/-- The words of the sound packet of a group's oldest instants, or none for none (R20 to R23, R100, R111). -/
def soundWords (g : GroupIx) (full : Bool) (phase : Nat) (instants : List Instant) : List Word :=
  let samples := instants.flatMap fun x =>
    [x[(0 : Fin 4)], x[(1 : Fin 4)], x[(2 : Fin 4)], x[(3 : Fin 4)]].flatMap fun o =>
      if full then [BitVec.ofNat 16 (o.value.toNat / 256),
        BitVec.ofNat 16 (o.value.toNat % 256 * 256 + (if o.valid then 1 else 0))]
      else [BitVec.ofNat 16 ((if o.value.toInt < 0 then 32768 else 0)
        + 16 * compactCode (scaledMagnitude o.value) + (if o.valid then 1 else 0))]
  if instants = [] then []
  else buildPacket (BitVec.ofNat 8 ((if full then 0x41 else 0x49) + g.val))
    (BitVec.ofNat 16 (16 * phase + instants.length) :: samples)

/-- Pass list entries offered one at a time to what is left of a line (R113): those placed, and how many are displaced. -/
def fitEntries : List PassEntry → Nat → List PassEntry × Nat
  | [], _ => ([], 0)
  | e :: rest, room =>
    if e.words.length ≤ room then
      let more := fitEntries rest (room - e.words.length)
      (e :: more.1, more.2)
    else
      let more := fitEntries rest room
      (more.1, more.2 + 1)

/-- The low class of a line: its words, whether a reply left, and how many entries were displaced. -/
structure LowWords where
  words : List Word
  replied : Bool
  displaced : Nat
  deriving DecidableEq, Repr

/-- The low class in what is left of a line (R39, R113, R114): entries of groups not in PASS go unoffered, and the reply,
where one is waiting, stands before or after the others by the reply turn when it fits. -/
def lowWords (l : Lane) (passList : List PassEntry) (reply : Option (List Word)) (room : Nat) : LowWords :=
  let kept := passList.filter fun e => match e.group with
    | some g => decide (l.plan.modes[g] = .pass)
    | none => true
  match l.replyTurn with
  | .before =>
    let first := (reply.filter fun r => decide (r.length ≤ room)).getD []
    let fit := fitEntries kept (room - first.length)
    ⟨first ++ fit.1.flatMap PassEntry.words, decide (first ≠ []), fit.2⟩
  | .after =>
    let fit := fitEntries kept room
    let words := fit.1.flatMap PassEntry.words
    let last := (reply.filter fun r => decide (r.length ≤ room - words.length)).getD []
    ⟨words ++ last, decide (last ≠ []), fit.2⟩

/-- The reply that waits for a lane, as its packet: the oldest one for it (R26, R114). -/
def State.waitingReply (s : State) (n : LaneIx) : Option (List Word) :=
  (s.replies.find? fun r => decide (r.iface.val = n.val)).map fun r => buildPacket 0x5B r.payload

/-- One value of a stream at a read, and the stream as the read leaves it (R80, R81, R92 to R95, R98): a source stream starves
at fill 0, yields a buffer value to fill 8191, and beyond it, which only an old stream meets, becomes a HOLD fill of the
last value it yielded (a free value where it has yielded none: log entry 6). The cases stand in this order for an old stream
of an absent source too (log entry 34). -/
def Stream.readBy (sources : Vector Source 192) (e : RouteEntry) (lastOut : Sample) : Stream → Stream × OutSample
  | .fill .silence => (.fill .silence, ⟨0, false⟩)
  | .fill (.hold v) => (.fill (.hold v), ⟨v, false⟩)
  | .source st =>
    let x := sources[st.source]
    let fill := (x.writeCount - st.readCount).toNat
    if fill = 0 then
      let v := if e.absenceFill = .hold then lastOut else 0
      (.source { st with lastYield := some v }, ⟨v, false⟩)
    else if fill ≤ 8191 then
      let stored := if x.validSpan < fill then 0 else Memory.read x.buffer (st.readCount.toNat % 8192)
      let v := if st.mute then 0 else applyGain st.gain (polarity st.invert stored)
      (.source { st with readCount := st.readCount + 1, lastYield := some v }, ⟨v, true⟩)
    else
      let v := st.lastYield.getD (Config.unyieldedHold st.source.val st.readCount)
      (.fill (.hold v), ⟨v, false⟩)

/-- The fill of a source stream (R57). -/
def SourceStream.fillIn (st : SourceStream) (sources : Vector Source 192) : Nat :=
  ((sources[st.source]).writeCount - st.readCount).toNat

/-- The stream that a re-seat onto source c makes (R78). -/
def RouteEntry.seated (e : RouteEntry) (sources : Vector Source 192) (c : SourceIx) : Stream :=
  .source {
    source := c, readCount := (sources[c]).writeCount - BitVec.ofNat 24 e.delay, gain := e.gain, invert := e.invert
    mute := e.mute, lastYield := none }

/-- A record that has started a crossfade to a new stream (R70). -/
def LiveRecord.fadingTo (r : LiveRecord) (new : Stream) : LiveRecord :=
  { r with old := some (r.current.getD (.fill .silence)), current := some new, fade := 0 }

/-- A port whose transmit side has offered these sound bundles, one after another, to the free places of its out FIFO (R134):
259 take a bundle whole, 3 to 258 take it cut short by ERROR END, fewer take nothing of it. -/
def Port.offered (x : Port) : List (List PortWord) → Port
  | [] => x
  | bundle :: rest =>
    let free := 2048 - x.outFifo.length
    Port.offered { x with
      outFifo := x.outFifo ++
        (if 259 ≤ free then bundle
        else if 3 ≤ free then bundle.take (free - 1) ++ [{ marker := true, data := 3 }]
        else [])
      counters := { x.counters with
        truncated := raise x.counters.truncated (if 3 ≤ free ∧ free < 259 then 1 else 0)
        skipped := raise x.counters.skipped (if free < 3 then 1 else 0) } } rest

/-- The pass list of the line that a lane has parsed and not built. -/
def Lane.parsedEntries (l : Lane) : List PassEntry :=
  l.awaiting.elim [] AwaitingBuild.passList

/-- How a fractional lane's phase, its slips counter and its flags stand after an output frame start (R145, R146). -/
def State.phased (n : LaneIx) (s t : State) : Prop :=
  let l := s.lanes[n]
  let fractional := decide (l.format = some .f29 ∨ l.format = some .f59)
  let flag := s.ref.realign[n]
  let fromCount := s.ref.count.val % 5
  let follows := ((s.ref.phase[n]).val + 1) % 5
  let slip := fractional && flag && !l.firstFrame && decide (fromCount ≠ follows)
  t.ref = { s.ref with
      phase := s.ref.phase.set n.val t.ref.phase[n] n.isLt
      realign := s.ref.realign.set n.val false n.isLt }
    ∧ (t.ref.phase[n]).val =
        (if !fractional then (s.ref.phase[n]).val else if l.firstFrame || flag then fromCount else follows)
    ∧ (t.lanes[n]).firstFrame = false
    ∧ (t.lanes[n]).counters = { l.counters with slips := raise l.counters.slips (if slip then 1 else 0) }

/-- A request, as a row of the table names it: arrival interface, kind, tag, parameters. -/
structure Request where
  iface : Iface
  kind : Nat
  tag : Word
  params : List Word
  deriving DecidableEq, Repr

/-- The request of a request row (R25). -/
def requestOf : Instr → Option Request
  | .readRoute i tag params => some ⟨i, 0x01, tag, params⟩
  | .readRouteState i tag params => some ⟨i, 0x02, tag, params⟩
  | .readSource i tag params => some ⟨i, 0x03, tag, params⟩
  | .readLane i tag params => some ⟨i, 0x04, tag, params⟩
  | .readPort i tag params => some ⟨i, 0x05, tag, params⟩
  | .readReference i tag params => some ⟨i, 0x06, tag, params⟩
  | .readTake i tag params => some ⟨i, 0x07, tag, params⟩
  | .readDevice i tag params => some ⟨i, 0x08, tag, params⟩
  | .setSource i tag params => some ⟨i, 0x10, tag, params⟩
  | .setReference i tag params => some ⟨i, 0x11, tag, params⟩
  | .setPort i tag params => some ⟨i, 0x12, tag, params⟩
  | .clearCounters i tag params => some ⟨i, 0x18, tag, params⟩
  | .resetUnit i tag params => some ⟨i, 0x19, tag, params⟩
  | .openTake i tag params => some ⟨i, 0x20, tag, params⟩
  | .setRoute i tag params => some ⟨i, 0x21, tag, params⟩
  | .setPlan i tag params => some ⟨i, 0x22, tag, params⟩
  | .commitTake i tag params => some ⟨i, 0x23, tag, params⟩
  | .abandonTake i tag params => some ⟨i, 0x24, tag, params⟩
  | .undoTake i tag params => some ⟨i, 0x25, tag, params⟩
  | .unknownRequestKind i kind tag params => some ⟨i, kind.toNat, tag, params⟩
  | .powerOnResetAssert => none
  | .powerOnResetRelease _ _ _ => none
  | .linkSignalAppears _ => none
  | .linkSignalLost _ => none
  | .frameStart _ _ => none
  | .inputCarriageLine _ _ => none
  | .outputFrameStart _ => none
  | .outputLineBuild _ => none
  | .portWordReceived _ _ => none
  | .stagingWordTaken _ => none
  | .channelAbsenceTimeout _ _ => none
  | .portFrame _ => none
  | .portPeriod _ => none
  | .transmitStall _ => none
  | .outFifoWordTaken _ => none
  | .takeExpiry => none

/-- The payload of a request to a unit address (R25). -/
def Request.payload (q : Request) (address : Byte) : List Word :=
  BitVec.ofNat 16 (256 * q.kind + address.toNat) :: q.tag :: q.params

/-- The form test of R25 with the preset test of R143: parameter count and index ranges by kind. -/
def Request.formed (q : Request) : Bool :=
  let index (bound : Nat) := decide ((q.params.getD 0 0).toNat < bound)
  let count := q.params.length
  match q.kind with
  | 0x01 | 0x02 | 0x03 => decide (count = 1) && index 192
  | 0x04 => decide (count = 1) && index 8
  | 0x05 => decide (count = 1) && index 2
  | 0x06 | 0x07 | 0x08 | 0x18 | 0x19 | 0x23 | 0x24 => decide (count = 0)
  | 0x10 => decide (count = 2) && index 192
  | 0x11 => decide (count = 2 ∨ (count = 3 ∧ (q.params.getD 2 0).toNat < 60000))
  | 0x12 => decide (count = 2) && index 2
  | 0x20 | 0x25 => decide (count = 1) && index 10
  | 0x21 => decide (2 ≤ count ∧ count = 5 + (q.params.getD 1 0).toNat / 256 % 8)
  | 0x22 => decide (count = 3) && index 10
  | _ => false

end Sys2Proof.Machine
end

