-- ==== Sys2Proof/Certificates/Slice0/Obligations.lean ====
section
/-! DEFINITION. The statements for the provers. -/

open Sys2Proof Sys2Proof.Machine

/-! ### The queue, the station clock, power-on reset -/

/-- A step takes the command at the front of the queue and is that command's effect on the state with the rest waiting. -/
def Obligations.StepRunsFrontCommand : Prop :=
  ∀ (c : Instr) (rest : List Instr) (s : State),
    step { s with pending := c :: rest } = exec c { s with pending := rest }

/-- On an empty queue with nothing due and no word waiting for a staging, a step is one sample of the station clock (model's choice, log entries 2, 12 and
19): the absence timers and their expiries, the stall timers, the positions of the ports on the station clock, and the
expiry of an OPEN take. -/
def Obligations.IdleStepLetsStationClockRun : Prop :=
  ∀ s : State, s.pending = [] → s.resetHeld = false → dueSteps s = [] →
    ∃ t, step s = .next t ∧ t = { s with ports := t.ports, take := t.take }
      ∧ t.take = s.take.map (fun k => if k.state = .opened then { k with expiry := min 96000 (k.expiry + 1) } else k)
      ∧ ∀ p : PortIx,
        let x := s.ports[p]
        let ticks := decide (x.clock = .station)
        let position := if ticks then (x.position + 1) % 1024 else x.position
        (∀ c : ChanIx, (t.ports[p]).absenceDue[c] = (x.absence[c]).any fun k => decide (2047 ≤ k))
        ∧ t.ports[p] = { x with
          absence := x.absence.map fun timer => timer.map fun k => min 2048 (k + 1)
          absenceDue := (t.ports[p]).absenceDue
          stallTimer :=
            if x.transmit = .running ∧ 2048 ≤ x.outFifo.length then min 48000 (x.stallTimer + 1) else x.stallTimer
          position := position
          periodDue := x.periodDue || (ticks && decide (position % 16 = 0))
          frameDue := x.frameDue || (ticks && decide (position = 0)) }

/-- Every command completes in every state (log entry 26, DEDUCED; while power-on reset is held, log entry 3), none touches
the waiting commands (the queue is the model's own), and none but the release of power-on reset changes the straps as read
(R172). -/
def Obligations.CommandsCompleteAndKeepQueueAndStraps : Prop :=
  ∀ (c : Instr) (s : State), ∃ t, exec c s = .next t ∧ t.pending = s.pending
    ∧ ((∀ u role lane, c ≠ .powerOnResetRelease u role lane) → t.straps = s.straps)

/-- Power-on reset held: its assertion changes nothing else, and a line that arrives on a link with signal leaves as it
arrived (R17). That no other command but the release then changes anything but the link pins is the model's choice (log
entry 3), and so is that a line parsed before the assertion and not yet built never leaves (log entry 33). -/
def Obligations.PowerOnResetHoldsBypass : Prop :=
  ∀ s : State, exec .powerOnResetAssert s = .next { s with resetHeld := true }
    ∧ (s.resetHeld = true → ∀ (n : LaneIx) (blanking : List Word), (s.lanes[n]).linkSignal = true →
      exec (.inputCarriageLine n blanking) s = .next (s.putLane n { s.lanes[n] with linkOut := blanking }))
    ∧ (s.resetHeld = true → ∀ c : Instr, (∀ u role lane, c ≠ .powerOnResetRelease u role lane) →
      ∃ t, exec c s = .next t ∧ t = { s with lanes := t.lanes }
        ∧ ∀ n : LaneIx, t.lanes[n] =
          { s.lanes[n] with linkSignal := (t.lanes[n]).linkSignal, linkOut := (t.lanes[n]).linkOut })

/-- The release of power-on reset reads the straps and puts every block into its power-on state; a lane whose link has
signal is ACQUIRING at once (R17, R32, R51, R66, R68, R107, R115, R121, R138, R149, R164, R171, R172, R173). A port's out
link pin (log entry 13) and the model's own fields, its events due and its held samples (log entries 12, 19 and 32), stand
as the model chooses. -/
def Obligations.ReleaseReachesPowerOn : Prop :=
  ∀ (u : BitVec 7) (role : Role) (lane : LaneIx) (s : State),
    ∃ t, exec (.powerOnResetRelease u role lane) s = .next t ∧ t.resetHeld = false
      ∧ t.straps = { unitAddress := u, role := role, refLane := lane }
      ∧ t.ref = {
          count := 0, role := role, refLane := lane, markIn := 0xFF, markOut := 0
          pendingMark := Vector.replicate 8 none, phase := Vector.replicate 8 0
          realign := Vector.replicate 8 false, inStep := 0, jumps := 0, invalid := 0, ignored := 0 }
      ∧ t.take = none ∧ (∀ i : Iface, t.undo[i] = []) ∧ t.replies = [] ∧ t.unanswered = 0 ∧ t.droppedApplied = 0
      ∧ (∀ n : LaneIx,
          (t.lanes[n]).inputState = (if (s.lanes[n]).linkSignal then .acquiring else .noSignal)
          ∧ (t.lanes[n]).format = none ∧ (t.lanes[n]).frameOpen = false ∧ (t.lanes[n]).lineCount = 0
          ∧ (t.lanes[n]).plan = { modes := Vector.replicate 4 .pass, budget := none }
          ∧ (t.lanes[n]).quiet = true ∧ (t.lanes[n]).passProgress = []
          ∧ (t.lanes[n]).running = Vector.replicate 4 false ∧ (t.lanes[n]).counters = .zero)
      ∧ (∀ i : SourceIx, t.sources[i] = {
          silenceLevel := 0, present := false, writeCount := 0, validSpan := 0, lastSample := 0, blockPosition := 0
          blockLoud := false, silentRun := 0, activeRun := 0, presentRun := 0, peak := 0, dropped := 0, gaps := 0
          buffer := [] })
      ∧ (∀ d : DestIx, t.entries[d] = {
          enabled := false, candidates := [], gain := 16384, invert := false, mute := false, delay := 480
          absenceFill := .silence, silenceWatch := false, failCode := 0, revertCode := 0, policy := .auto })
      ∧ (∀ d : DestIx, t.dests[d] = {
          state := .idle, active := none, current := none, old := none, fade := 32, lastOut := 0, counters := .zero })
      ∧ ∀ p : PortIx, t.ports[p] = {
          receiveEnable := true, inFifo := [], staging := .idle, prevCount := Vector.replicate 4 none
          absence := Vector.replicate 4 none, absenceDue := Vector.replicate 4 false, transmit := .disabled
          outFifo := [], stallTimer := 0, nextCount := 0, position := 0, clock := .station
          plan := { channels := Vector.replicate 4 false, clock := .station }, running := Vector.replicate 4 false
          frameDue := false, periodDue := false, heldSamples := 0, counters := .zero, linkOut := none }

/-! ### Lane section and stripper -/

/-- Link signal on a lane that is not LOCKED (R1): its appearance in NO_SIGNAL starts ACQUIRING, in ACQUIRING changes
nothing but the pin; its loss leaves NO_SIGNAL with no frame and no output signal. -/
def Obligations.LinkSignalMovesUnlockedLane : Prop :=
  ∀ (n : LaneIx) (s : State), s.resetHeld = false →
    ((s.lanes[n]).inputState = .noSignal →
      exec (.linkSignalAppears n) s = .next (s.putLane n { s.lanes[n] with
        linkSignal := true, inputState := .acquiring, format := none, frameOpen := false, lineCount := 0 })
      ∧ exec (.linkSignalLost n) s = .next (s.putLane n { s.lanes[n] with linkSignal := false }))
    ∧ ((s.lanes[n]).inputState = .acquiring →
      exec (.linkSignalAppears n) s = .next (s.putLane n { s.lanes[n] with linkSignal := true })
      ∧ exec (.linkSignalLost n) s = .next (s.putLane n { s.lanes[n] with
        linkSignal := false, inputState := .noSignal, format := none, frameOpen := false, lineCount := 0
        linkOut := [] }))
    ∧ ((s.lanes[n]).inputState = .locked →
      exec (.linkSignalAppears n) s = .next (s.putLane n { s.lanes[n] with linkSignal := true }))

/-- Lane loss reaches every block, whether a LOCKED lane loses its signal (R1), a frame start closes a frame of another
format, of none or of fewer than 1120 lines, or a 1121st line begins (R2, R4); no take is PENDING on the lane's scope (R14,
R15, R60, R85, R130, R145, R166). The line count 0 after a 1121st line is log entry 9's; that a line parsed but not built
leaves in bypass at the frame start is log entry 28's; that a sample still held behind a port frame falls before the port
falls back is log entry 32's. -/
def Obligations.LaneLossReachesEveryBlock : Prop :=
  ∀ (n : LaneIx) (s : State), s.resetHeld = false → (s.lanes[n]).inputState = .locked →
    (∀ k ∈ s.take, k.state = .pending → k.scope.val ≠ n.val) →
    (∃ t, exec (.linkSignalLost n) s = .next t ∧ s.lostLane n t
      ∧ (t.lanes[n]).inputState = .noSignal ∧ (t.lanes[n]).format = none ∧ (t.lanes[n]).frameOpen = false
      ∧ (t.lanes[n]).lineCount = 0 ∧ (t.lanes[n]).linkOut = [] ∧ (t.lanes[n]).linkSignal = false)
    ∧ (∀ timing : Option Format, (s.lanes[n]).frameOpen = true →
        ((s.lanes[n]).lineCount < 1120 ∨ timing ≠ (s.lanes[n]).format ∨ timing = none) →
        ∃ t, exec (.frameStart n timing) s = .next t ∧ s.lostLane n t
          ∧ (t.lanes[n]).inputState = .acquiring
          ∧ (t.lanes[n]).format = (if (s.lanes[n]).lineCount < 1120 then none else timing)
          ∧ (t.lanes[n]).frameOpen = true ∧ (t.lanes[n]).lineCount = 0
          ∧ (t.lanes[n]).linkOut = (s.lanes[n]).awaiting.elim (s.lanes[n]).linkOut AwaitingBuild.blanking)
    ∧ (∀ blanking : List Word, (s.lanes[n]).frameOpen = true → 1120 ≤ (s.lanes[n]).lineCount →
        ∃ t, exec (.inputCarriageLine n blanking) s = .next t ∧ s.lostLane n t
          ∧ (t.lanes[n]).inputState = .acquiring ∧ (t.lanes[n]).format = none ∧ (t.lanes[n]).frameOpen = false
          ∧ (t.lanes[n]).lineCount = 0 ∧ (t.lanes[n]).linkOut = blanking)

/-- Frame starts of an ACQUIRING lane (R2, R3): the first opens a frame; one that closes a frame of the candidate format
locks the lane; any other sets the candidate. -/
def Obligations.FrameStartWhileAcquiring : Prop :=
  ∀ (n : LaneIx) (timing : Option Format) (s : State), s.resetHeld = false → (s.lanes[n]).inputState = .acquiring →
    let seen := if (s.lanes[n]).lineCount < 1120 then none else timing
    ((s.lanes[n]).frameOpen = false →
      exec (.frameStart n timing) s = .next (s.putLane n { s.lanes[n] with frameOpen := true, lineCount := 0 }))
    ∧ ((s.lanes[n]).frameOpen = true → (seen = none ∨ seen ≠ (s.lanes[n]).format) →
      exec (.frameStart n timing) s =
        .next (s.putLane n { s.lanes[n] with format := seen, frameOpen := true, lineCount := 0 }))
    ∧ ((s.lanes[n]).frameOpen = true → seen ≠ none → seen = (s.lanes[n]).format →
      ∃ t, exec (.frameStart n timing) s = .next t
        ∧ t = { s with lanes := t.lanes, ports := t.ports, ref := t.ref }
        ∧ t.lanes = s.lanes.set n.val { s.lanes[n] with
            inputState := .locked, firstFrame := true, frameOpen := true, lineCount := 0 } n.isLt
        ∧ (∀ p : PortIx, t.ports[p] =
            if (s.ports[p]).plan.clock = .lane n then { s.ports[p] with clock := .lane n } else s.ports[p])
        ∧ s.countedFrame n t)

/-- A frame start of a LOCKED lane that closes a frame of the locked format is the input frame end and the next input frame
start (R4, R6, R47, R48, R59, R60, R139): sources follow the seen marks, the marks are cleared, a LEADER counts. -/
def Obligations.FrameStartKeepsLock : Prop :=
  ∀ (n : LaneIx) (f : Format) (s : State), s.resetHeld = false → (s.lanes[n]).inputState = .locked →
    (s.lanes[n]).frameOpen = true → 1120 ≤ (s.lanes[n]).lineCount → (s.lanes[n]).format = some f →
    ∃ t, exec (.frameStart n (some f)) s = .next t
      ∧ t = { s with lanes := t.lanes, sources := t.sources, ref := t.ref }
      ∧ t.lanes = s.lanes.set n.val { s.lanes[n] with lineCount := 0, seen := Vector.replicate 4 false } n.isLt
      ∧ (∀ (g : GroupIx) (i : SourceIx), i.val / 4 = 4 * n.val + g.val →
          if (s.lanes[n]).seen[g] = true then
            (t.sources[i]).present = true ∧ (t.sources[i]).validSpan = (s.sources[i]).validSpan
              ∧ (t.sources[i]).writeCount = (s.sources[i]).writeCount
              ∧ (t.sources[i]).buffer = (s.sources[i]).buffer
              ∧ ((s.sources[i]).present = true → t.sources[i] = s.sources[i])
              ∧ ((s.sources[i]).present = false → (t.sources[i]).silentRun = 0 ∧ (t.sources[i]).activeRun = 0
                ∧ (t.sources[i]).presentRun = 0)
          else (t.sources[i]).lostFrom s.sources[i])
      ∧ (∀ i : SourceIx, i.val / 16 ≠ n.val → t.sources[i] = s.sources[i])
      ∧ s.countedFrame n t

/-- Carriage lines of a lane that is not LOCKED leave as they arrived and reach no block (R2, R9); a 1121st line closes the
frame as unrecognised. Without signal no line arrives and nothing changes (log entry 10); the line count 0 after the close
is log entry 9's. -/
def Obligations.UnlockedLanePassesLines : Prop :=
  ∀ (n : LaneIx) (blanking : List Word) (s : State), s.resetHeld = false →
    ((s.lanes[n]).inputState = .noSignal → exec (.inputCarriageLine n blanking) s = .next s)
    ∧ ((s.lanes[n]).inputState = .acquiring → (s.lanes[n]).frameOpen = false →
      exec (.inputCarriageLine n blanking) s = .next (s.putLane n { s.lanes[n] with linkOut := blanking }))
    ∧ ((s.lanes[n]).inputState = .acquiring → (s.lanes[n]).frameOpen = true → (s.lanes[n]).lineCount < 1120 →
      exec (.inputCarriageLine n blanking) s = .next (s.putLane n { s.lanes[n] with
        lineCount := (s.lanes[n]).lineCount + 1, linkOut := blanking }))
    ∧ ((s.lanes[n]).inputState = .acquiring → (s.lanes[n]).frameOpen = true → 1120 ≤ (s.lanes[n]).lineCount →
      exec (.inputCarriageLine n blanking) s = .next (s.putLane n { s.lanes[n] with
        format := none, frameOpen := false, lineCount := 0, linkOut := blanking }))

/-- Lines of several packets on a LOCKED lane (R18, R20, R31, R33, R44, R45). A line of packets for other equipment alone
(foreign packets and control replies, any number, then filler) is counted and its packets await the build of the same line,
in order and unaltered; nothing else changes. A line of any packets, of whatever kinds, good, damaged or cut, acts as its
first complete packet alone and then as the rest of the line in the state that packet leaves, with one pass list of the
entries of both; words before the packet that are no lead word are passed over. -/
def Obligations.LineCarriesForeignPackets : Prop :=
  ∀ (n : LaneIx) (s : State), s.takesLine n →
    (∀ (packets : List (Byte × List Word)) (k : Nat),
      (∀ q ∈ packets, q.2.length ≤ 255
        ∧ (packetClass q.1 = .foreign ∨ (packetClass q.1 = .reply ∧ 3 ≤ q.2.length))) →
      let blanking := (packets.flatMap fun q => buildPacket q.1 q.2) ++ List.replicate k 0
      exec (.inputCarriageLine n blanking) s = .next (s.putLane n ((s.lanes[n]).afterLine blanking
        (packets.map fun q => { group := none, words := buildPacket q.1 q.2 }))))
    ∧ ∀ (passed rest tail : List Word) (head : Word), (∀ w ∈ passed, w ≠ leadWord) →
        rest.length = (loByte head).toNat + 1 →
        let first := passed ++ leadWord :: head :: rest
        let l := s.lanes[n]
        ∃ u v : State, exec (.inputCarriageLine n first) s = .next u
          ∧ exec (.inputCarriageLine n tail)
              (u.putLane n { u.lanes[n] with lineCount := l.lineCount, awaiting := l.awaiting }) = .next v
          ∧ exec (.inputCarriageLine n (first ++ tail)) s = .next (v.putLane n { v.lanes[n] with
              awaiting := some {
                line := l.lineCount, blanking := first ++ tail
                passList := (u.lanes[n]).parsedEntries ++ (v.lanes[n]).parsedEntries } })

/-- A good sound group packet of either grade appends its samples to the four sources of its group in time order (a sample
with V clear as 0, a compact one expanded), marks the group seen, and enters the pass list with its group (R21 to R23, R36
to R39); nothing else changes. -/
def Obligations.SoundPacketIsStripped : Prop :=
  ∀ (n : LaneIx) (g : GroupIx) (grade : Grade) (phase : Fin 8) (instants : List Instant) (k : Nat) (s : State),
    s.takesLine n → 1 ≤ instants.length → instants.length ≤ 4 →
    let packet := buildPacket (soundKind g grade) (soundPayload grade phase.val instants)
    let stored (o : OutSample) : Sample :=
      if o.valid then
        match grade with
        | .full => o.value
        | .compact => expandSample (decide (o.value.toInt < 0)) (compactCode (scaledMagnitude o.value))
      else 0
    ∃ t, exec (.inputCarriageLine n (packetLine packet k)) s = .next t
      ∧ t = { s with lanes := t.lanes, sources := t.sources }
      ∧ t.lanes = s.lanes.set n.val { (s.lanes[n]).afterLine (packetLine packet k) [{ group := some g, words := packet }]
          with seen := (s.lanes[n]).seen.set g.val true g.isLt } n.isLt
      ∧ (∀ (i : SourceIx) (track : Fin 4), i.val = 16 * n.val + 4 * g.val + track.val →
          t.sources[i] = (instants.map fun x => stored x[track]).foldl appendSample s.sources[i])
      ∧ ∀ i : SourceIx, i.val / 4 ≠ 4 * n.val + g.val → t.sources[i] = s.sources[i]

/-- What a line loses. A packet within the line with a wrong check word, or that fails its kind's condition (R19, R20: a sound
packet by its m field and exact length, a mark of a length other than 1, a request of fewer than 2 words, a reply of fewer
than 3), is dropped and counted; one of a sound kind also counts its m field (1 when it is not 1 to 4, or there is no
payload) against the four sources of its group (R34, R35). A packet that runs past the line end, and a lead word in the last word, stop the parse and
count one malformed line (R18, R33). -/
def Obligations.DamageIsDroppedAndCounted : Prop :=
  ∀ (n : LaneIx) (k : Nat) (s : State), s.takesLine n →
    (∀ (head : Word) (rest : List Word), rest.length = (loByte head).toNat + 1 →
      let packet := leadWord :: head :: rest
      let kind := (hiByte head).toNat
      let length := (loByte head).toNat
      let m := (rest.getD 0 0).toNat % 8
      ((packet.map BitVec.toNat).sum % 65536 ≠ 0
        ∨ (0x41 ≤ kind ∧ kind ≤ 0x44 ∧ (length = 0 ∨ m = 0 ∨ 4 < m ∨ length ≠ 1 + 8 * m))
        ∨ (0x49 ≤ kind ∧ kind ≤ 0x4C ∧ (length = 0 ∨ m = 0 ∨ 4 < m ∨ length ≠ 1 + 4 * m))
        ∨ (kind = 0x50 ∧ length ≠ 1) ∨ (kind = 0x5A ∧ length < 2) ∨ (kind = 0x5B ∧ length < 3)) →
      let amount := if 2 ≤ rest.length ∧ 1 ≤ m ∧ m ≤ 4 then m else 1
      ∃ t, exec (.inputCarriageLine n (packetLine packet k)) s = .next t
        ∧ t = { s with lanes := t.lanes, sources := t.sources }
        ∧ t.lanes = s.lanes.set n.val { (s.lanes[n]).afterLine (packetLine packet k) [] with
            counters := { (s.lanes[n]).counters with damaged := raise (s.lanes[n]).counters.damaged 1 } } n.isLt
        ∧ ∀ i : SourceIx, t.sources[i] =
            if (0x41 ≤ kind ∧ kind ≤ 0x44 ∧ i.val / 4 = 4 * n.val + (kind - 0x41))
                ∨ (0x49 ≤ kind ∧ kind ≤ 0x4C ∧ i.val / 4 = 4 * n.val + (kind - 0x49)) then
              { s.sources[i] with dropped := raise (s.sources[i]).dropped amount }
            else s.sources[i])
    ∧ (∀ tail : List Word, (∀ head rest, tail = head :: rest → rest.length < (loByte head).toNat + 1) →
      let blanking := List.replicate k 0 ++ leadWord :: tail
      exec (.inputCarriageLine n blanking) s = .next (s.putLane n { (s.lanes[n]).afterLine blanking [] with
        counters := { (s.lanes[n]).counters with malformed := raise (s.lanes[n]).counters.malformed 1 } }))

/-- A frame mark in step on a mark-input lane of a FOLLOWER moves the count, is an RC event of its lane's format, and waits
on every other LOCKED lane of the mark-output set (R40, R141, R145). -/
def Obligations.MarkInStepIsPropagated : Prop :=
  ∀ (n : LaneIx) (c : Fin 60000) (f : Format) (k : Nat) (s : State), s.takesLine n →
    (s.lanes[n]).format = some f → s.ref.role = .follower → inSet s.ref.markIn n = true →
    c.val = (s.ref.count.val + 1) % 60000 →
    let blanking := packetLine (buildPacket 0x50 [BitVec.ofNat 16 c.val]) k
    ∃ t, exec (.inputCarriageLine n blanking) s = .next t
      ∧ t = { s.putLane n ((s.lanes[n]).afterLine blanking []) with ref := t.ref }
      ∧ t.ref = { s.ref with
          count := c, inStep := raise s.ref.inStep 1, pendingMark := t.ref.pendingMark, realign := t.ref.realign }
      ∧ ∀ m : LaneIx,
          t.ref.pendingMark[m] =
            (if inSet s.ref.markOut m = true ∧ m ≠ n ∧ (s.lanes[m]).inputState = .locked then some c
            else s.ref.pendingMark[m])
          ∧ t.ref.realign[m] = (s.ref.realign[m]
            || (decide ((s.lanes[m]).inputState = .locked) && decide ((s.lanes[m]).format = some f)))

/-- Every other frame mark (R40, R41, R140, R142): invalid from 60000 on; ignored by a LEADER and on a lane of the mark-output set
alone; a jump, which moves the count and is not propagated; and, on a lane of neither set, carried on unread. -/
def Obligations.MarkNotInStepIsJudged : Prop :=
  ∀ (n : LaneIx) (c : Word) (f : Format) (k : Nat) (s : State), s.takesLine n → (s.lanes[n]).format = some f →
    let packet := buildPacket 0x50 [c]
    let blanking := packetLine packet k
    let read := s.putLane n ((s.lanes[n]).afterLine blanking [])
    let inputs := inSet s.ref.markIn n
    let consumed := inputs || inSet s.ref.markOut n
    (consumed = false → exec (.inputCarriageLine n blanking) s =
        .next (s.putLane n ((s.lanes[n]).afterLine blanking [{ group := none, words := packet }])))
    ∧ (consumed = true → 60000 ≤ c.toNat → exec (.inputCarriageLine n blanking) s =
        .next { read with ref := { s.ref with invalid := raise s.ref.invalid 1 } })
    ∧ (consumed = true → c.toNat < 60000 → (s.ref.role = .leader ∨ inputs = false) →
        exec (.inputCarriageLine n blanking) s =
          .next { read with ref := { s.ref with ignored := raise s.ref.ignored 1 } })
    ∧ (∀ count : Fin 60000, count.val = c.toNat → s.ref.role = .follower → inputs = true →
        c.toNat ≠ (s.ref.count.val + 1) % 60000 →
        ∃ t, exec (.inputCarriageLine n blanking) s = .next t ∧ t = { read with ref := t.ref }
          ∧ t.ref = { s.ref with count := count, jumps := raise s.ref.jumps 1, realign := t.ref.realign }
          ∧ ∀ m : LaneIx, t.ref.realign[m] = (s.ref.realign[m]
            || (decide ((s.lanes[m]).inputState = .locked) && decide ((s.lanes[m]).format = some f))))

/-- A request on a line (R25, R42 to R44, R163). A READ DEVICE to this unit's address is consumed and answered on its lane; to
the broadcast address it is answered and carried on; to any other address it is carried on alone; the reply queue has room.
Every request, of each of the nineteen kinds and of an unknown kind, does the same whatever the queue: to this unit or to all
it does on the counted line what its own command from that lane does, and is then consumed, or carried on when to all; to any
other address it is carried on alone. -/
def Obligations.RequestOnLineIsSorted : Prop :=
  ∀ (n : LaneIx) (address : Byte) (k : Nat) (s : State), s.takesLine n →
    let toUnit := decide (address.toNat = s.straps.unitAddress.toNat)
    let toAll := decide (address.toNat = 255)
    let l := s.lanes[n]
    (∀ tag : Word, s.replies.length < 8 →
      let packet := buildPacket 0x5A [bytes 0x08 address, tag]
      let blanking := packetLine packet k
      let answered := if toUnit || toAll then
          s.answer (laneScope n) 0 tag 0x08
            [BitVec.ofNat 16 (s.straps.unitAddress.toNat + 256 * (if s.straps.role = .follower then 1 else 0)
              + 512 * s.straps.refLane.val), s.unanswered, s.droppedApplied]
        else s
      exec (.inputCarriageLine n blanking) s = .next (answered.putLane n (l.afterLine blanking
        (if toUnit then [] else [{ group := none, words := packet }]))))
    ∧ ∀ (c : Instr) (q : Request), requestOf c = some q → c.wellFormed = true → q.iface = laneScope n →
      let packet := buildPacket 0x5A (q.payload address)
      let blanking := packetLine packet k
      let carried : List PassEntry := [{ group := none, words := packet }]
      ((toUnit || toAll) = true → ∃ u : State,
        exec c (s.putLane n { l with lineCount := l.lineCount + 1, passProgress := [] }) = .next u
          ∧ exec (.inputCarriageLine n blanking) s = .next (u.putLane n { u.lanes[n] with
              awaiting := some {
                line := l.lineCount, blanking := blanking, passList := if toUnit then [] else carried } }))
      ∧ ((toUnit || toAll) = false →
        exec (.inputCarriageLine n blanking) s = .next (s.putLane n (l.afterLine blanking carried)))

/-! ### Boundaries: output frame starts and port frames -/

/-- An output frame start with no take pending on the scope (R7, R73, R83, R145, R146): groups in an EMBED mode run and the
others stop, the phase of a fractional lane is set and its slip counted, the realign flag is cleared, and every destination
of a running group takes its check. On a lane that is not LOCKED none falls (log entry 1). -/
def Obligations.OutputFrameStartSettlesLane : Prop :=
  ∀ (n : LaneIx) (s : State), s.resetHeld = false →
    ((s.lanes[n]).inputState ≠ .locked → exec (.outputFrameStart n) s = .next s)
    ∧ ((s.lanes[n]).inputState = .locked → (∀ k ∈ s.take, k.state = .pending → k.scope.val ≠ n.val) →
      ∃ t, exec (.outputFrameStart n) s = .next t
        ∧ t = { s with lanes := t.lanes, dests := t.dests, ref := t.ref } ∧ s.phased n t
        ∧ t.lanes = s.lanes.set n.val { s.lanes[n] with
            firstFrame := false, running := (t.lanes[n]).running, counters := (t.lanes[n]).counters } n.isLt
        ∧ (∀ g : GroupIx, (t.lanes[n]).running[g] = embeds (s.lanes[n]).plan.modes[g])
        ∧ (∀ d : DestIx, d.val / 16 ≠ n.val → t.dests[d] = s.dests[d])
        ∧ ∀ (g : GroupIx) (d : DestIx), d.val / 4 = 4 * n.val + g.val →
            if (t.lanes[n]).running[g] then t.dests[d] = check s.sources s.entries[d] true s.dests[d]
            else (t.dests[d]).stoppedFrom s.dests[d])

/-- An output frame start at which a take is PENDING on the lane's scope applies it as one event (R11, R83, R157 to R160,
R165): undo record, plan with its carry queues, entries, live records, APPLIED reply. The cadence phase is set as at any
output frame start (R145, R146), and the destinations the take did not latch take their check (R73). Each latched one acts
on its new entry, as ActiveFillIsNearDelay says row by row, and is not checked again. That groups stop and begin to run before
the latched entries act is log entry 22's. In states whose records and output sides agree. -/
def Obligations.OutputFrameStartAppliesTake : Prop :=
  ∀ (n : LaneIx) (k : Take) (s : State), s.resetHeld = false → (s.lanes[n]).inputState = .locked →
    s.take = some k → k.state = .pending → k.scope.val = n.val → s.outputsConsistent →
    ∃ t, exec (.outputFrameStart n) s = .next t ∧ s.tookTake t k (.lane (s.lanes[n]).plan) ∧ s.phased n t
      ∧ (t.lanes[n]).plan = (match k.plan with
          | some (.lane new) => new
          | _ => (s.lanes[n]).plan)
      ∧ (∀ g : GroupIx, (t.lanes[n]).running[g] = embeds (t.lanes[n]).plan.modes[g])
      ∧ (∀ g : GroupIx, (t.lanes[n]).queues[g] =
          if embeds (s.lanes[n]).plan.modes[g] ∧ ¬ embeds (t.lanes[n]).plan.modes[g] then [] else (s.lanes[n]).queues[g])
      ∧ t.lanes = s.lanes.set n.val { s.lanes[n] with
          plan := (t.lanes[n]).plan, running := (t.lanes[n]).running, queues := (t.lanes[n]).queues, firstFrame := false
          counters := (t.lanes[n]).counters } n.isLt
      ∧ t.ports = s.ports ∧ t.latchedActed k ∧ s.latchedEntered t k
      ∧ ∀ d : DestIx, (∀ c ∈ k.latches, c.1 ≠ d) →
          (d.val / 16 ≠ n.val → t.dests[d] = s.dests[d])
          ∧ ∀ g : GroupIx, d.val / 4 = 4 * n.val + g.val →
              if (t.lanes[n]).running[g] then t.dests[d] = check s.sources s.entries[d] true s.dests[d]
              else (t.dests[d]).stoppedFrom s.dests[d]

/-- A port frame (R73, R84, R129, R130, R136, R157, R159): a take PENDING on the port's scope is applied, its plan with the
clock in use; the channels that the plan enables run when transmit is RUNNING, and the others stop; destinations the take did
not latch take their check, and each latched one acts once on its new entry, as ActiveFillIsNearDelay says row by row. FIFOs,
staging, timers, transmit state, other counters and the frame count unit are kept. That channels stop and begin to run before
the latched entries act is log entry 22's. A sample of the lane clock held behind the frame falls after it, unless the frame
has changed the clock: then the new clock moves the position from the frame onward (log entry 32). -/
def Obligations.PortFrameSettlesPort : Prop :=
  ∀ (p : PortIx) (s : State), s.resetHeld = false →
    ((∀ k ∈ s.take, k.state = .pending → k.scope.val ≠ 8 + p.val) →
      ∃ t, exec (.portFrame p) s = .next t ∧ t = { s with ports := t.ports, dests := t.dests }
        ∧ t.ports = s.ports.set p.val { clockSamples 0 { s.ports[p] with frameDue := false } with
            running := (t.ports[p]).running } p.isLt
        ∧ (∀ c : ChanIx, (t.ports[p]).running[c] =
            (decide ((s.ports[p]).transmit = .running) && (s.ports[p]).plan.channels[c]))
        ∧ (∀ d : DestIx, d.val / 32 ≠ 4 + p.val → t.dests[d] = s.dests[d])
        ∧ ∀ (c : ChanIx) (d : DestIx), d.val / 8 = 16 + 4 * p.val + c.val →
            if (t.ports[p]).running[c] then t.dests[d] = check s.sources s.entries[d] true s.dests[d]
            else (t.dests[d]).stoppedFrom s.dests[d])
    ∧ (∀ k : Take, s.take = some k → k.state = .pending → k.scope.val = 8 + p.val → s.outputsConsistent →
      ∃ t, exec (.portFrame p) s = .next t ∧ s.tookTake t k (.port (s.ports[p]).plan) ∧ t.lanes = s.lanes
        ∧ (t.ports[p]).plan = (match k.plan with
            | some (.port new) => new
            | _ => (s.ports[p]).plan)
        ∧ (∀ c : ChanIx, (t.ports[p]).running[c] =
            (decide ((s.ports[p]).transmit = .running) && (t.ports[p]).plan.channels[c]))
        ∧ (∀ new : PortPlan, k.plan = some (.port new) →
            let held := match new.clock with
              | .lane m => decide ((s.lanes[m]).inputState = .locked)
              | .station => true
            (t.ports[p]).clock = (if held then new.clock else .station)
            ∧ (t.ports[p]).counters.fallbacks =
                raise (s.ports[p]).counters.fallbacks (if !held ∧ (s.ports[p]).clock ≠ .station then 1 else 0))
        ∧ ((∀ new : PortPlan, k.plan ≠ some (.port new)) → (t.ports[p]).clock = (s.ports[p]).clock
            ∧ (t.ports[p]).counters.fallbacks = (s.ports[p]).counters.fallbacks)
        ∧ t.ref = s.ref
        ∧ t.ports = s.ports.set p.val (clockSamples 0 { s.ports[p] with
            frameDue := false
            plan := (t.ports[p]).plan
            clock := (t.ports[p]).clock
            running := (t.ports[p]).running
            counters := { (s.ports[p]).counters with fallbacks := (t.ports[p]).counters.fallbacks }
            heldSamples := if (t.ports[p]).clock = (s.ports[p]).clock then (s.ports[p]).heldSamples else 0 }) p.isLt
        ∧ ((s.ports[p]).heldSamples = 0 → (t.ports[p]).position = (s.ports[p]).position)
        ∧ ((s.ports[p]).heldSamples = 1 → (s.ports[p]).position = 0 →
            (t.ports[p]).position = if (t.ports[p]).clock = (s.ports[p]).clock then 1 else 0)
        ∧ ((s.ports[p]).heldSamples ≤ 1 → (t.ports[p]).heldSamples = 0)
        ∧ (∀ q : PortIx, q ≠ p → t.ports[q] = s.ports[q])
        ∧ t.latchedActed k ∧ s.latchedEntered t k
        ∧ ∀ d : DestIx, (∀ c ∈ k.latches, c.1 ≠ d) →
            (d.val / 32 ≠ 4 + p.val → t.dests[d] = s.dests[d])
            ∧ ∀ c : ChanIx, d.val / 8 = 16 + 4 * p.val + c.val →
                if (t.ports[p]).running[c] then t.dests[d] = check s.sources s.entries[d] true s.dests[d]
                else (t.dests[d]).stoppedFrom s.dests[d])

/-! ### The line arbiter -/

/-- The words the part places on an output line never exceed the lane's budget in force: every word of the blanking space
from the budget on is filler (R12, R109). The build ends with the rotation pointer one on, the reply turn flipped exactly
when a reply was waiting, no line awaiting, and the line's samples given to the ports the lane clocks (R5, R46, R115), but
for one held behind a port frame that the sample before it raised (log entry 32). A lane that is not LOCKED, or has no
parsed line, has no build (log entry 1). -/
def Obligations.BuildStaysWithinBudget : Prop :=
  ∀ (n : LaneIx) (s : State), s.resetHeld = false →
    (((s.lanes[n]).inputState ≠ .locked ∨ (s.lanes[n]).awaiting = none) →
      exec (.outputLineBuild n) s = .next s)
    ∧ ∀ (f : Format) (a : AwaitingBuild), s.buildsLine n f a →
      ∃ t, exec (.outputLineBuild n) s = .next t
        ∧ (∀ i, (s.lanes[n]).budgetOn f ≤ i → (t.lanes[n]).linkOut.getD i 0 = 0)
        ∧ ((s.lanes[n]).budgetOn f ≤ a.blanking.length → (t.lanes[n]).linkOut.length = a.blanking.length)
        ∧ (t.lanes[n]).rotation.val = ((s.lanes[n]).rotation.val + 1) % 4
        ∧ ((t.lanes[n]).replyTurn ≠ (s.lanes[n]).replyTurn ↔ ∃ r ∈ s.replies, r.iface.val = n.val)
        ∧ (t.lanes[n]).awaiting = none
        ∧ (∀ m : LaneIx, m ≠ n → t.lanes[m] = s.lanes[m])
        ∧ (∀ p : PortIx, (s.ports[p]).clock ≠ .lane n → t.ports[p] = s.ports[p])
        ∧ (∀ p : PortIx, (s.ports[p]).clock = .lane n → (s.ports[p]).position < 1024 →
            ((t.ports[p]).position + (t.ports[p]).heldSamples) % 1024 =
              ((s.ports[p]).position + (s.ports[p]).heldSamples + s.samplesOn n f a.line) % 1024
            ∧ ((t.ports[p]).heldSamples ≠ 0 → (t.ports[p]).position = 0 ∧ (t.ports[p]).frameDue = true))
        ∧ t.sources = s.sources ∧ t.entries = s.entries ∧ t.take = s.take ∧ t.undo = s.undo

/-- A built line reads back as the run of packets placed on it, each with its kind and payload and a check word that makes
its sum 0, with nothing malformed (R18, R19). -/
def Obligations.BuiltLineReadsBack : Prop :=
  ∀ (packets : List (Byte × List Word)) (space : Nat), (∀ q ∈ packets, q.2.length ≤ 255) →
    scanLine (lineContent (packets.map fun q => buildPacket q.1 q.2) space) =
        (packets.map (fun q => buildPacket q.1 q.2), false)
      ∧ ∀ q ∈ packets,
          ((buildPacket q.1 q.2).map BitVec.toNat).sum % 65536 = 0
            ∧ packetKind (buildPacket q.1 q.2) = q.1 ∧ packetPayload (buildPacket q.1 q.2) = q.2
            ∧ (buildPacket q.1 q.2).length = q.2.length + 3

/-- The low class on a lane that embeds nothing, off line 0 (R39, R46, R113, R114, R116). Entries: those of a group not in
PASS go uncounted, one longer than the budget is displaced and counted, the rest are placed in order as they arrived. Reply:
with nothing else to place, the oldest reply for the lane is placed and leaves the queue when it fits, and otherwise stays.
With both, each is offered what the one before has left: the reply first on a BEFORE line, the entries first on an AFTER
line. That a sample of the line waits behind a port frame that the sample before it raised is log entry 32's. -/
def Obligations.LowClassIsOffered : Prop :=
  ∀ (n : LaneIx) (f : Format) (a : AwaitingBuild) (s : State), s.buildsLine n f a → a.line ≠ 0 →
    (s.lanes[n]).embedsNothing → (∀ h : GroupIx, ((s.lanes[n]).queues[h]).length ≤ 8) →
    let l := s.lanes[n]
    let kept (e : PassEntry) : Bool := match e.group with
      | some g => decide (l.plan.modes[g] = .pass)
      | none => true
    let words (es : List PassEntry) : List Word := (es.filter kept).flatMap PassEntry.words
    let built (waiting : Bool) (displaced : Nat) (content : List Word) (replies : List Reply) : State :=
      { s.putLane n (l.afterBuild waiting displaced (paddedLine content a.blanking.length)) with
        replies := replies, ports := s.clockedBy n (s.samplesOn n f a.line) }
    (s.noReplyFor n.val → (words a.passList).length ≤ l.budgetOn f →
      exec (.outputLineBuild n) s = .next (built false 0 (words a.passList) s.replies))
    ∧ (∀ (before after : List PassEntry) (long : PassEntry), s.noReplyFor n.val →
        a.passList = before ++ long :: after → kept long = true → l.budgetOn f < long.words.length →
        (words before ++ words after).length ≤ l.budgetOn f →
        exec (.outputLineBuild n) s = .next (built false 1 (words before ++ words after) s.replies))
    ∧ (∀ (before after : List Reply) (r : Reply), a.passList = [] → s.replies = before ++ r :: after →
        r.iface.val = n.val → (∀ x ∈ before, x.iface.val ≠ n.val) →
        exec (.outputLineBuild n) s = .next
          (if r.payload.length + 3 ≤ l.budgetOn f then
            built true 0 (buildPacket 0x5B r.payload) (before ++ after)
          else built true 0 [] s.replies))
    ∧ (s.noReplyFor n.val →
        let fit := fitEntries (a.passList.filter kept) (l.budgetOn f)
        exec (.outputLineBuild n) s = .next (built false fit.2 (fit.1.flatMap PassEntry.words) s.replies))
    ∧ (∀ (before after : List Reply) (r : Reply), s.replies = before ++ r :: after → r.iface.val = n.val →
        (∀ x ∈ before, x.iface.val ≠ n.val) →
        let reply := buildPacket 0x5B r.payload
        (l.replyTurn = .before →
          let fits := decide (reply.length ≤ l.budgetOn f)
          let fit := fitEntries (a.passList.filter kept) (l.budgetOn f - (if fits then reply.length else 0))
          exec (.outputLineBuild n) s = .next
            (if fits then built true fit.2 (reply ++ fit.1.flatMap PassEntry.words) (before ++ after)
            else built true fit.2 (fit.1.flatMap PassEntry.words) s.replies))
        ∧ (l.replyTurn = .after →
          let fit := fitEntries (a.passList.filter kept) (l.budgetOn f)
          let placed := fit.1.flatMap PassEntry.words
          exec (.outputLineBuild n) s = .next
            (if placed.length + reply.length ≤ l.budgetOn f then
              built true fit.2 (placed ++ reply) (before ++ after)
            else built true fit.2 placed s.replies)))

/-- The frame mark of output line 0, first on the line (R24, R110, R144): on every output frame of a LEADER's mark-output
lane with the count as it stands; on a FOLLOWER's lane with a pending mark, which it clears; on no other. On a lane that
embeds nothing, with an empty pass list and no reply waiting. That a sample of the line waits behind a port frame that the
sample before it raised is log entry 32's. -/
def Obligations.MarkIsPlacedOnLineZero : Prop :=
  ∀ (n : LaneIx) (f : Format) (a : AwaitingBuild) (s : State), s.buildsLine n f a → a.line = 0 →
    (s.lanes[n]).embedsNothing → (∀ h : GroupIx, ((s.lanes[n]).queues[h]).length ≤ 8) → a.passList = [] →
    s.noReplyFor n.val → 4 ≤ (s.lanes[n]).budgetOn f →
    let built (content : List Word) (ref : Reference) : State :=
      { s.putLane n ((s.lanes[n]).afterBuild false 0 (paddedLine content a.blanking.length)) with
        ref := ref, ports := s.clockedBy n (s.samplesOn n f 0) }
    let mark (c : Fin 60000) : List Word :=
      [0xC3A5, 0x5001, BitVec.ofNat 16 c.val, BitVec.ofNat 16 (65536 - (0xC3A5 + 0x5001 + c.val) % 65536)]
    (s.ref.role = .leader → exec (.outputLineBuild n) s = .next
      (built (if inSet s.ref.markOut n then mark s.ref.count else []) s.ref))
    ∧ (s.ref.role = .follower → exec (.outputLineBuild n) s = .next
      (built (match s.ref.pendingMark[n] with
          | some c => mark c
          | none => [])
        { s.ref with pendingMark := s.ref.pendingMark.set n.val none n.isLt }))

/-- The whole build of a line after its reads (R10, R20 to R23, R109 to R116), whatever groups embed or run and however many
samples it reads: the frame mark due on line 0; then, in rising order from the rotation pointer, each EMBED group's grant
m = min(q, 4, floor((R − 4) / (4·w))) of what the ones before have left, its m oldest instants leaving the queue in one packet
of the mode's grade with the lane's phase, or none when m is 0; then the low class in what is left of the line. What the
reads leave is LineReadsFillQueues'. That a sample of the line waits behind a port frame that the sample before it raised is
log entry 32's. -/
def Obligations.GroupPacketIsGranted : Prop :=
  ∀ (n : LaneIx) (f : Format) (a : AwaitingBuild) (s : State), s.buildsLine n f a → 4 ≤ (s.lanes[n]).budgetOn f →
    let count := s.samplesOn n f a.line
    let filled := lineReads n count s
    let l := filled.lanes[n]
    let due := if a.line = 0 then
        (if s.ref.role = .leader then (if inSet s.ref.markOut n then some s.ref.count else none)
        else s.ref.pendingMark[n])
      else none
    let mark : List Word := due.elim [] fun c =>
      [0xC3A5, 0x5001, BitVec.ofNat 16 c.val, BitVec.ofNat 16 (65536 - (0xC3A5 + 0x5001 + c.val) % 65536)]
    let phase := if f = .f29 ∨ f = .f59 then (s.ref.phase[n]).val else 7
    let grants := roundGrants l.plan (fun g => (l.queues[g]).length)
      [l.rotation, l.rotation + 1, l.rotation + 2, l.rotation + 3] (l.budgetOn f - mark.length)
    let granted (g : GroupIx) : Nat := ((grants.find? fun x => decide (x.1 = g)).map Prod.snd).getD 0
    let packet (g : GroupIx) : List Word :=
      soundWords g (decide (l.plan.modes[g] = .embedFull)) phase ((l.queues[g]).take (granted g))
    let sound := mark ++ grants.flatMap fun x => packet x.1
    let low := lowWords l a.passList (s.waitingReply n) (l.budgetOn f - sound.length)
    let after := l.afterBuild (s.waitingReply n).isSome low.displaced
      (paddedLine (sound ++ low.words) a.blanking.length)
    exec (.outputLineBuild n) s = .next
      { filled.putLane n { after with queues := Vector.ofFn fun g => (l.queues[g]).drop (granted g) } with
        ref := if a.line = 0 ∧ s.ref.role = .follower then
            { s.ref with pendingMark := s.ref.pendingMark.set n.val none n.isLt }
          else s.ref
        ports := s.clockedBy n count
        replies := if low.replied then s.replies.eraseP (fun r => decide (r.iface.val = n.val)) else s.replies }

/-- The reads at the start of a line's build (R79, R105, R107, R108): each destination of a running EMBED group makes the
line's reads; the queue keeps the newest 8 instants of what it held and gained, and the overrun counter rises by the number
of instants dropped. Other groups gain nothing. The build of output line j makes n_j such reads, and then takes at most 4
instants off the front of each queue. -/
def Obligations.LineReadsFillQueues : Prop :=
  ∀ (n : LaneIx) (g : GroupIx) (count : Nat) (s : State),
    let l := s.lanes[n]
    let t := lineReads n count s
    let reads := l.running[g] && embeds l.plan.modes[g]
    (if reads then
      ((t.lanes[n]).queues[g]).length = min 8 ((l.queues[g]).length + count)
        ∧ (t.lanes[n]).counters.overrun[g] = raise l.counters.overrun[g] ((l.queues[g]).length + count - 8)
        ∧ ∃ gained : List Instant, gained.length = count
          ∧ (t.lanes[n]).queues[g] = ((l.queues[g]) ++ gained).drop ((l.queues[g]).length + count - 8)
          ∧ ∀ (track : Fin 4) (d : DestIx), d.val = 16 * n.val + 4 * g.val + track.val →
              (gained.map fun x => x[track]) = (readMany s.sources s.entries[d] count s.dests[d]).2
                ∧ t.dests[d] = (readMany s.sources s.entries[d] count s.dests[d]).1
    else
      ((l.queues[g]).length ≤ 8 → (t.lanes[n]).queues[g] = l.queues[g])
        ∧ ∀ d : DestIx, d.val / 4 = 4 * n.val + g.val → t.dests[d] = s.dests[d])
    ∧ (∀ d : DestIx, d.val / 16 ≠ n.val → t.dests[d] = s.dests[d])
    ∧ ∀ (f : Format) (a : AwaitingBuild), s.buildsLine n f a → count = s.samplesOn n f a.line →
        ∃ u, exec (.outputLineBuild n) s = .next u ∧ u.dests = t.dests
          ∧ (u.lanes[n]).counters.overrun[g] = (t.lanes[n]).counters.overrun[g]
          ∧ ∃ m ≤ 4, (u.lanes[n]).queues[g] = ((t.lanes[n]).queues[g]).drop m

/-! ### Destinations and sample arithmetic -/

/-- One read of a destination that is not PARKED (R57, R78 to R82, R88, R91 to R98). ACTIVE: lapped above fill 8191, also in
the middle of a fade; and without a fade starved at 0, 0 outside the valid span, else the stored sample through polarity,
gain and mute. In a fade, in any state: the old and the current stream each yield a value, and the output is their blend at
k, with V set when either has it. FILLING and IDLE without a fade: the fill value, and 0, with V clear. The hold value of an
old stream lapped before it yielded anything is free (log entry 6), and an old stream of an absent source goes by the same
cases (log entry 34). The last output sample is the output, but 0 for an IDLE record whose fade to silence ends with the read
at k = 31 (R98 before R82: log entry 30). -/
def Obligations.ReadTakesStreamCases : Prop :=
  ∀ (sources : Vector Source 192) (e : RouteEntry) (r : LiveRecord), 128 ≤ e.delay → e.delay ≤ 6000 →
    let t := (readOnce sources e r).1
    let o := (readOnce sources e r).2
    (∀ st : SourceStream, r.state = .active → r.current = some (.source st) →
      let x := sources[st.source]
      let fill := (x.writeCount - st.readCount).toNat
      (8191 < fill → t.lastOut = o.value ∧ t.state = .active ∧ t.active = r.active
        ∧ o = { value := r.lastOut, valid := true } ∧ t.fade = 1 ∧ t.old = some (.fill (.hold r.lastOut))
        ∧ (∃ y, t.current = some (.source { source := st.source, gain := e.gain, invert := e.invert, mute := e.mute
                                            readCount := x.writeCount - BitVec.ofNat 24 e.delay + 1
                                            lastYield := y }))
        ∧ t.counters = { r.counters with laps := raise r.counters.laps 1, reseats := raise r.counters.reseats 1 })
      ∧ (r.fade = 32 → fill = 0 → t.lastOut = o.value ∧ t.state = .active ∧ t.active = r.active
        ∧ o = { value := (if e.absenceFill = .hold then r.lastOut else 0), valid := false }
        ∧ (∃ y, t.current = some (.source { st with lastYield := y })) ∧ t.fade = 32 ∧ t.old = r.old
        ∧ t.counters = { r.counters with starves := raise r.counters.starves 1 })
      ∧ (r.fade = 32 → 1 ≤ fill → fill ≤ 8191 → t.lastOut = o.value ∧ t.state = .active ∧ t.active = r.active ∧
        let stored := if x.validSpan < fill then 0 else Memory.read x.buffer (st.readCount.toNat % 8192)
        let turned := if st.invert then polarity true stored else stored
        o = { value := (if st.mute then 0 else applyGain st.gain turned), valid := true }
          ∧ (∃ y, t.current = some (.source { st with readCount := st.readCount + 1, lastYield := y }))
          ∧ t.fade = 32 ∧ t.old = r.old ∧ t.counters = r.counters))
    ∧ (∀ x z : Stream, r.state ≠ .parked → r.fade < 32 → r.current = some x → r.old = some z →
        (∀ st : SourceStream, x = .source st → st.fillIn sources ≤ 8191) →
        let new := x.readBy sources e r.lastOut
        let old := z.readBy sources e r.lastOut
        let starved := match x with
          | .source st => decide (st.fillIn sources = 0)
          | .fill _ => false
        o.value.toInt = (old.2.value.toInt * (32 - (r.fade : Int)) + new.2.value.toInt * (r.fade : Int) + 16) / 32
          ∧ o.valid = (old.2.valid || new.2.valid)
          ∧ t = { r with
              current := some new.1
              old := if r.fade = 31 then none else some old.1
              fade := r.fade + 1
              lastOut := if r.state = .idle ∧ r.fade = 31 then 0 else o.value
              counters := { r.counters with starves := raise r.counters.starves (if starved then 1 else 0) } })
    ∧ (∀ x : FillStream, r.state = .filling → r.fade = 32 → r.current = some (.fill x) →
        o = { value := (match x with | .silence => 0 | .hold v => v), valid := false }
          ∧ t = { r with lastOut := o.value })
    ∧ (r.state = .idle → r.fade = 32 → (r.current = none ∨ r.current = some (.fill .silence)) →
        o = { value := 0, valid := false } ∧ t = { r with lastOut := 0 })

/-- Right after a frame-start check or a take application leaves a destination ACTIVE, its fill lies within D − 64 to D + 64
(R74 to R78, R86, R87). And what a live record does when a take replaces its committed entry, row by row (R71, R78, R86 to
R88). Disabled: ACTIVE and FILLING fade to silence as IDLE; PARKED and IDLE are IDLE without a stream. Enabled: IDLE and
PARKED are PARKED where the output side does not run, and where it runs start on the most preferred usable candidate, or fill,
by a fade only from an IDLE one's fade to silence; FILLING re-seats, or fades to a fill of another kind, or stands; ACTIVE
selects afresh: it fills, re-seats on another source or at another D, and else keeps its position by lap, realign, a fade to
changed gain, invert or mute, or as it is. The last output sample 0 of the IDLE record is log entry 8's. -/
def Obligations.ActiveFillIsNearDelay : Prop :=
  ∀ (sources : Vector Source 192) (e : RouteEntry) (running : Bool) (oldDelay : Nat) (r : LiveRecord),
    (128 ≤ e.delay → e.delay ≤ 6000 →
      ∀ t : LiveRecord, (t = check sources e running r ∨ t = enterEntry sources oldDelay e running r) →
        t.state = .active → ∀ st : SourceStream, t.current = some (.source st) →
          let fill := ((sources[st.source]).writeCount - st.readCount).toNat
          e.delay ≤ fill + 64 ∧ fill ≤ e.delay + 64)
    ∧
    let threshold : Nat := if e.failCode.val = 0 then 512 else 64 * e.failCode.val
    let good (i : SourceIx) : Prop := (sources[i]).present = true
      ∧ (e.silenceWatch = true → (sources[i]).silentRun < threshold)
    let first (b : Nat) (c : SourceIx) : Prop := e.candidates[b]? = some c ∧ good c
      ∧ ∀ (b' : Nat) (c' : SourceIx), b' < b → e.candidates[b']? = some c' → ¬ good c'
    let noneGood : Prop := ∀ c ∈ e.candidates, ¬ good c
    let fill : Stream := .fill (if e.absenceFill = .hold then .hold r.lastOut else .silence)
    let faded : LiveRecord := { r.fadingTo fill with state := .filling, active := none }
    let silent : LiveRecord := {
      state := .idle, active := none, current := none, old := none, fade := 32, lastOut := 0, counters := r.counters }
    let reseated (b : Nat) (c : SourceIx) : LiveRecord := { r.fadingTo (e.seated sources c) with
      state := .active, active := some b, counters := { r.counters with reseats := raise r.counters.reseats 1 } }
    let t := enterEntry sources oldDelay e running r
    (e.enabled = false →
      ((r.state = .active ∨ r.state = .filling) →
        t = { r.fadingTo (.fill .silence) with state := .idle, active := none })
      ∧ ((r.state = .parked ∨ r.state = .idle) → t = silent))
    ∧ (e.enabled = true →
      ((r.state = .parked ∨ r.state = .idle) →
        (running = false → t = { silent with state := .parked })
        ∧ (running = true →
          (∀ (b : Nat) (c : SourceIx), first b c → t = reseated b c)
          ∧ (noneGood → r.state = .idle → r.fade < 32 → t = faded)
          ∧ (noneGood → r.fade = 32 →
            t = { r with state := .filling, active := none, current := some fill, old := none })))
      ∧ (r.state = .filling →
        (∀ (b : Nat) (c : SourceIx), first b c → t = reseated b c)
        ∧ (noneGood → ∀ x : FillStream, r.current = some (.fill x) →
          let holds := match x with
            | .silence => false
            | .hold _ => true
          t = if holds = decide (e.absenceFill = .hold) then r else faded))
      ∧ (r.state = .active →
        (noneGood → t = faded)
        ∧ ∀ (b : Nat) (c : SourceIx) (st : SourceStream), first b c → r.current = some (.source st) →
          let n := st.fillIn sources
          let taken (readCount : Count) : Stream := .source {
            source := c, readCount := readCount, gain := e.gain, invert := e.invert, mute := e.mute, lastYield := none }
          ((c ≠ st.source ∨ e.delay ≠ oldDelay) → t = reseated b c)
          ∧ (c = st.source → e.delay = oldDelay →
            (8191 < n → t = { r with
              active := some b, old := some (.fill (.hold r.lastOut)), current := some (e.seated sources c), fade := 0
              counters := { r.counters with
                laps := raise r.counters.laps 1, reseats := raise r.counters.reseats 1 } })
            ∧ (n ≤ 8191 → (n + 64 < e.delay ∨ e.delay + 64 < n) →
              t = { r.fadingTo (taken ((sources[c]).writeCount - BitVec.ofNat 24 e.delay)) with
                active := some b, counters := { r.counters with realigns := raise r.counters.realigns 1 } })
            ∧ (n ≤ 8191 → e.delay ≤ n + 64 → n ≤ e.delay + 64 →
              t = if e.gain = st.gain ∧ e.invert = st.invert ∧ e.mute = st.mute then { r with active := some b }
                else { r.fadingTo (taken st.readCount) with active := some b }))))

/-- The frame-start check of one destination, row by row (R67, R70 to R78). ACTIVE with its active candidate not usable:
failover to the most preferred usable other candidate at delay D, or to FILLING. ACTIVE with it usable: AUTO reverts to the
most preferred candidate before it that is ready; with no revert the drift test re-seats a lapped stream, realigns one whose
fill is more than 64 from D, and leaves any other. PARKED with its output side running, and FILLING: the start onto the most
preferred usable candidate, or FILLING; any other PARKED one and an IDLE one are as they were. -/
def Obligations.FailoverTakesMostPreferred : Prop :=
  ∀ (sources : Vector Source 192) (e : RouteEntry) (running : Bool) (r : LiveRecord),
    let threshold (code : Fin 8) : Nat := if code.val = 0 then 512 else 64 * code.val
    let good (i : SourceIx) : Prop := (sources[i]).present = true
      ∧ (e.silenceWatch = true → (sources[i]).silentRun < threshold e.failCode)
    let ready (i : SourceIx) : Prop := good i
      ∧ threshold e.revertCode ≤ (if e.silenceWatch then (sources[i]).activeRun else (sources[i]).presentRun)
    let first (p : Nat → SourceIx → Prop) (b : Nat) (c : SourceIx) : Prop := e.candidates[b]? = some c ∧ p b c
      ∧ ∀ (b' : Nat) (c' : SourceIx), b' < b → e.candidates[b']? = some c' → ¬ p b' c'
    let noneGood : Prop := ∀ c ∈ e.candidates, ¬ good c
    let fill : Stream := .fill (if e.absenceFill = .hold then .hold r.lastOut else .silence)
    let t := check sources e running r
    (∀ a : Nat, r.state = .active → r.active = some a →
      ((∀ c : SourceIx, e.candidates[a]? = some c → ¬ good c) →
        (noneGood → t = { r.fadingTo fill with
          state := .filling, active := none
          counters := { r.counters with failovers := raise r.counters.failovers 1 } })
        ∧ ∀ (b : Nat) (c : SourceIx), first (fun _ c => good c) b c → t = { r.fadingTo (e.seated sources c) with
            active := some b
            counters := { r.counters with
              failovers := raise r.counters.failovers 1, reseats := raise r.counters.reseats 1 } })
      ∧ ∀ c₀ : SourceIx, e.candidates[a]? = some c₀ → good c₀ →
        (∀ (b : Nat) (c : SourceIx), e.policy = .auto → b < a → first (fun _ c => ready c) b c →
          t = { r.fadingTo (e.seated sources c) with
            active := some b
            counters := { r.counters with
              reverts := raise r.counters.reverts 1, reseats := raise r.counters.reseats 1 } })
        ∧ ∀ st : SourceStream, r.current = some (.source st) →
          (e.policy = .latched ∨ ∀ (b : Nat) (c : SourceIx), b < a → e.candidates[b]? = some c → ¬ ready c) →
          (8191 < st.fillIn sources → t = { r with
            old := some (.fill (.hold r.lastOut)), current := some (e.seated sources st.source), fade := 0
            counters := { r.counters with laps := raise r.counters.laps 1, reseats := raise r.counters.reseats 1 } })
          ∧ (st.fillIn sources ≤ 8191 → e.delay ≤ st.fillIn sources + 64 → st.fillIn sources ≤ e.delay + 64 → t = r)
          ∧ (st.fillIn sources ≤ 8191 → (st.fillIn sources + 64 < e.delay ∨ e.delay + 64 < st.fillIn sources) →
            t = { r.fadingTo (.source { st with
                readCount := (sources[st.source]).writeCount - BitVec.ofNat 24 e.delay, lastYield := none }) with
              counters := { r.counters with realigns := raise r.counters.realigns 1 } }))
    ∧ ((r.state = .filling ∨ (r.state = .parked ∧ running = true)) →
      (∀ (b : Nat) (c : SourceIx), first (fun _ c => good c) b c → t = { r.fadingTo (e.seated sources c) with
        state := .active, active := some b, counters := { r.counters with reseats := raise r.counters.reseats 1 } })
      ∧ (r.state = .filling → noneGood → t = r)
      ∧ (r.state = .parked → r.fade = 32 → noneGood → t = { r with
        state := .filling, active := none, current := some fill, old := none }))
    ∧ ((r.state = .idle ∨ (r.state = .parked ∧ running = false)) → t = r)

/-- Polarity, gain and crossfade as exact integer arithmetic (R93, R94, R96): −8388608 alone saturates when negated; gain
rounds halves towards positive infinity and saturates, unity changes nothing; a blend starts at the old value and stays
between the two. -/
def Obligations.ArithmeticIsExact : Prop :=
  (∀ x : Sample, polarity false x = x
    ∧ (polarity true x).toInt = (if x.toInt = -8388608 then 8388607 else -x.toInt))
  ∧ (∀ (g : Word) (x : Sample),
      (applyGain g x).toInt = max (-8388608) (min 8388607 ((x.toInt * (g.toNat : Int) + 8192) / 16384)))
  ∧ (∀ x : Sample, applyGain 16384 x = x ∧ applyGain 0 x = 0)
  ∧ ∀ (k : Nat) (old new : Sample), k < 32 →
      (blend k old new).toInt = (old.toInt * (32 - (k : Int)) + new.toInt * (k : Int) + 16) / 32
        ∧ min old.toInt new.toInt ≤ (blend k old new).toInt ∧ (blend k old new).toInt ≤ max old.toInt new.toInt
        ∧ blend 0 old new = old

/-- Compact coding and expansion (R100, R102): the four segments, the sign, V; every code is used; an expanded code codes to
itself, and the stored sample has exactly the expanded scaled magnitude. -/
def Obligations.CompactCodesRoundTrip : Prop :=
  (∀ s : Sample, scaledMagnitude s = min (s.toInt.natAbs / 256) 32767)
  ∧ (∀ m : Nat, m ≤ 32767 →
      (m ≤ 511 → compactCode m = m)
      ∧ (512 ≤ m → m ≤ 2047 → compactCode m = 512 + (m - 512) / 4)
      ∧ (2048 ≤ m → m ≤ 8191 → compactCode m = 896 + (m - 2048) / 16)
      ∧ (8192 ≤ m → compactCode m = 1280 + (m - 8192) / 32)
      ∧ compactCode m ≤ 2047)
  ∧ (∀ o : OutSample, (compactWord o).toNat =
      (if o.value.toInt < 0 then 32768 else 0) + 16 * compactCode (scaledMagnitude o.value) + (if o.valid then 1 else 0))
  ∧ (∀ c : Nat, c ≤ 2047 →
      (c ≤ 511 → expandCode c = c)
      ∧ (512 ≤ c → c ≤ 895 → expandCode c = 512 + 4 * (c - 512) + 2)
      ∧ (896 ≤ c → c ≤ 1279 → expandCode c = 2048 + 16 * (c - 896) + 8)
      ∧ (1280 ≤ c → expandCode c = 8192 + 32 * (c - 1280) + 16)
      ∧ expandCode c ≤ 32752 ∧ compactCode (expandCode c) = c
      ∧ ∀ negative : Bool, (expandSample negative c).toInt = (if negative then -1 else 1) * (256 * expandCode c : Int)
        ∧ scaledMagnitude (expandSample negative c) = expandCode c)
  ∧ ∀ w : Word, readCompact w =
      (if w.toNat % 2 = 1 then expandSample (decide (32768 ≤ w.toNat)) (w.toNat / 16 % 2048) else 0)

/-- The samples of a frame and of its lines (R103, R104): the counts of the format table, whose five phases sum to 8008 and
4004; each line carries floor((j + 1)·S / 1120) − floor(j·S / 1120), 0 to 2, and the 1120 lines carry exactly S. -/
def Obligations.LinesCarryFrameSamples : Prop :=
  (∀ k : Fin 5, frameSamples .f23 k.val = 2002 ∧ frameSamples .f24 k.val = 2000 ∧ frameSamples .f25 k.val = 1920
      ∧ frameSamples .f30 k.val = 1600 ∧ frameSamples .f50 k.val = 960 ∧ frameSamples .f60 k.val = 800
      ∧ frameSamples .f29 k.val = (k.val + 1) * 8008 / 5 - k.val * 8008 / 5
      ∧ frameSamples .f59 k.val = (k.val + 1) * 4004 / 5 - k.val * 4004 / 5)
  ∧ ((List.range 5).map (frameSamples .f29)).sum = 8008 ∧ ((List.range 5).map (frameSamples .f59)).sum = 4004
  ∧ ∀ S : Nat, S ≤ 2002 →
      (∀ j : Nat, j < 1120 → lineSamples S j = (j + 1) * S / 1120 - j * S / 1120 ∧ lineSamples S j ≤ 2)
        ∧ ((List.range 1120).map (lineSamples S)).sum = S
        ∧ (1120 ≤ S → (List.range 1120).countP (fun j => decide (lineSamples S j = 2)) = S - 1120
          ∧ (List.range 1120).countP (fun j => decide (lineSamples S j = 1)) = 2240 - S)
        ∧ (S < 1120 → (List.range 1120).countP (fun j => decide (lineSamples S j = 1)) = S
          ∧ (List.range 1120).countP (fun j => decide (lineSamples S j = 0)) = 1120 - S)

/-! ### Source records -/

/-- One append, taken whole (R52 to R55): buffer place, write count, last sample, valid span and peak, present or absent;
the silence block and the three runs only while present. -/
def Obligations.AppendTakesSample : Prop :=
  ∀ (x : Source) (v : Sample), Memory.wf x.buffer = true → x.blockPosition < 64 →
    let y := appendSample x v
    let place := x.writeCount.toNat % 8192
    let loud := decide (x.silenceLevel < min 32767 (v.toInt.natAbs / 256))
    let blockLoud := x.blockLoud || loud
    (∀ q : Nat, Memory.read y.buffer q = if q = place then v else Memory.read x.buffer q)
      ∧ Memory.wf y.buffer = true
      ∧ y.writeCount = x.writeCount + 1 ∧ y.lastSample = v ∧ y.validSpan = min 8192 (x.validSpan + 1)
      ∧ y.peak = max x.peak (min 32767 (v.toInt.natAbs / 256))
      ∧ y.present = x.present ∧ y.silenceLevel = x.silenceLevel ∧ y.dropped = x.dropped ∧ y.gaps = x.gaps
      ∧ (x.present = false →
          y.blockPosition = x.blockPosition ∧ y.blockLoud = x.blockLoud ∧ y.silentRun = x.silentRun
            ∧ y.activeRun = x.activeRun ∧ y.presentRun = x.presentRun)
      ∧ (x.present = true → x.blockPosition < 63 →
          y.blockPosition = x.blockPosition + 1 ∧ y.blockLoud = blockLoud ∧ y.silentRun = x.silentRun
            ∧ y.activeRun = x.activeRun ∧ y.presentRun = x.presentRun)
      ∧ (x.present = true → x.blockPosition = 63 →
          y.blockPosition = 0 ∧ y.blockLoud = false ∧ y.presentRun = min 512 (x.presentRun + 1)
            ∧ y.silentRun = (if blockLoud then 0 else min 512 (x.silentRun + 1))
            ∧ y.activeRun = (if blockLoud then min 512 (x.activeRun + 1) else 0))

/-! ### Sound ports -/

/-- The receive side word by word (R28, R29, R122, R123), but for the END of a bundle in BODY: the in FIFO accepts words
while receive is enabled and it holds fewer than 2048, and the staging takes the oldest by its own state, on an empty queue
without being commanded, before any station-clock sample passes. A word that a full FIFO holds back stays with the sender (log
entry 24). That a word's turn comes on an empty queue, after the due steps of a port before it and the port's absence timeouts,
is log entry 2's. -/
def Obligations.ReceiveSideTakesWords : Prop :=
  ∀ (p : PortIx) (w : PortWord) (s : State), s.resetHeld = false →
    let x := s.ports[p]
    let code := w.data.toNat % 16
    let channel := w.data.toNat / 256 % 8
    let discard (y : Port) : Port :=
      { y with counters := { y.counters with discarded := raise y.counters.discarded 1 } }
    exec (.portWordReceived p w) s = .next
        (s.putPort p (if x.receiveEnable ∧ x.inFifo.length < 2048 then { x with inFifo := x.inFifo ++ [w] } else x))
      ∧ ((x.receiveEnable = false ∨ x.inFifo = []) → exec (.stagingWordTaken p) s = .next s)
      ∧ (x.receiveEnable = true → x.inFifo ≠ [] → s.pending = [] → (p = 1 → portDue 0 s.ports[0] = []) →
          (∀ c : ChanIx, x.absenceDue[c] = false) → step s = exec (.stagingWordTaken p) s)
      ∧ ∀ rest : List PortWord, x.receiveEnable = true → x.inFifo = w :: rest →
        let y := { x with inFifo := rest }
        (x.staging = .idle → exec (.stagingWordTaken p) s = .next (s.putPort p
            (if w.marker ∧ code = 1 then { y with staging := .header channel } else y)))
        ∧ (∀ c : Nat, x.staging = .header c → exec (.stagingWordTaken p) s = .next (s.putPort p
            (if w.marker then
              if code = 1 then discard { y with staging := .header channel } else discard { y with staging := .idle }
            else { y with staging := .body c (hiByte w.data) (w.data.toNat % 128) [] 0 })))
        ∧ (∀ (c : Nat) (count : Byte) (n : Nat) (words : List Word) (length : Nat),
            x.staging = .body c count n words length →
            (w.marker = false → exec (.stagingWordTaken p) s = .next (s.putPort p { y with
              staging := .body c count n (if length < 1024 then words ++ [w.data] else words) (length + 1) }))
            ∧ (w.marker = true → code = 1 → exec (.stagingWordTaken p) s =
                .next (s.putPort p (discard { y with staging := .header channel })))
            ∧ (w.marker = true → code ≠ 1 → code ≠ 2 → exec (.stagingWordTaken p) s =
                .next (s.putPort p (discard { y with staging := .idle }))))

/-- A good sound bundle at its END (R29, R59, R62, R64, R125): its samples are appended to the channel's eight sources in time
order, V clear as 0, then the sources are present; a count that does not follow the previous one is one gap; the count is
kept and the absence timer restarted, and an expiry of it that has fallen due stays due (R61, R127). -/
def Obligations.GoodBundleIsTaken : Prop :=
  ∀ (p : PortIx) (c : ChanIx) (count : Byte) (n : Nat) (words : List Word) (w : PortWord) (rest : List PortWord)
    (s : State), s.resetHeld = false → (s.ports[p]).receiveEnable = true → (s.ports[p]).inFifo = w :: rest →
    w.marker = true → w.data.toNat % 16 = 2 → (s.ports[p]).staging = .body c.val count n words (16 * n) →
    words.length = 16 * n → 1 ≤ n → n ≤ 64 →
    let stored (i : Nat) (track : Fin 8) : Sample :=
      let high := words.getD (2 * (8 * i + track.val)) 0
      let low := words.getD (2 * (8 * i + track.val) + 1) 0
      if low.toNat % 2 = 1 then BitVec.ofNat 24 (high.toNat * 256 + low.toNat / 256) else 0
    let gap := ((s.ports[p]).prevCount[c]).any fun k => decide (count.toNat ≠ (k.toNat + 1) % 256)
    ∃ t, exec (.stagingWordTaken p) s = .next t ∧ t = { s with ports := t.ports, sources := t.sources }
      ∧ t.ports = s.ports.set p.val { s.ports[p] with
          inFifo := rest
          staging := .idle
          prevCount := (s.ports[p]).prevCount.set c.val (some count) c.isLt
          absence := (s.ports[p]).absence.set c.val (some 0) c.isLt } p.isLt
      ∧ (∀ i : SourceIx, i.val / 8 ≠ 16 + 4 * p.val + c.val → t.sources[i] = s.sources[i])
      ∧ ∀ (track : Fin 8) (i : SourceIx), i.val = 128 + 32 * p.val + 8 * c.val + track.val →
          let y := ((List.range n).map fun k => stored k track).foldl appendSample s.sources[i]
          (t.sources[i]).present = true ∧ (t.sources[i]).writeCount = y.writeCount
            ∧ (t.sources[i]).buffer = y.buffer ∧ (t.sources[i]).validSpan = y.validSpan
            ∧ (t.sources[i]).lastSample = y.lastSample ∧ (t.sources[i]).peak = y.peak
            ∧ (t.sources[i]).gaps = raise (s.sources[i]).gaps (if gap then 1 else 0)
            ∧ ((s.sources[i]).present = true → t.sources[i] = { y with gaps := (t.sources[i]).gaps })
            ∧ ((s.sources[i]).present = false → (t.sources[i]).silentRun = 0 ∧ (t.sources[i]).activeRun = 0
              ∧ (t.sources[i]).presentRun = 0 ∧ (t.sources[i]).blockPosition = 0)

/-- Every other bundle closed by END in BODY (R124, R126): a sound bundle of the wrong n or length, channel codes 4 to 6, and
a control bundle of the wrong length are discarded and counted; a control bundle to another address is dropped uncounted; a
READ DEVICE to this unit or to all is answered on the port; and every request to this unit or to all, of each of the nineteen
kinds and of an unknown kind, does what its own command from that port does (R25, R163). -/
def Obligations.BundleIsJudged : Prop :=
  ∀ (p : PortIx) (c : Nat) (count : Byte) (n : Nat) (words : List Word) (length : Nat) (w : PortWord)
    (rest : List PortWord) (s : State), s.resetHeld = false → (s.ports[p]).receiveEnable = true →
    (s.ports[p]).inFifo = w :: rest → w.marker = true → w.data.toNat % 16 = 2 →
    (s.ports[p]).staging = .body c count n words length →
    let y := { s.ports[p] with inFifo := rest, staging := .idle }
    (((c < 4 ∧ (n = 0 ∨ 64 < n ∨ length ≠ 16 * n)) ∨ c = 4 ∨ c = 5 ∨ c = 6 ∨ (c = 7 ∧ (length < 2 ∨ 255 < length))) →
      exec (.stagingWordTaken p) s = .next (s.putPort p { y with
        counters := { y.counters with discarded := raise y.counters.discarded 1 } }))
    ∧ (c = 7 → 2 ≤ length → length ≤ 255 →
        let address := (words.getD 0 0).toNat % 256
        (address ≠ s.straps.unitAddress.toNat → address ≠ 255 →
          exec (.stagingWordTaken p) s = .next (s.putPort p y))
        ∧ (∀ (request : Instr) (q : Request) (unit : Byte), requestOf request = some q → request.wellFormed = true →
            q.iface = portScope p → words = q.payload unit →
            (unit.toNat = s.straps.unitAddress.toNat ∨ unit.toNat = 255) →
            exec (.stagingWordTaken p) s = exec request (s.putPort p y))
        ∧ (∀ tag : Word, (address = s.straps.unitAddress.toNat ∨ address = 255) →
            words = [BitVec.ofNat 16 (0x0800 + address), tag] → s.replies.length < 8 →
            exec (.stagingWordTaken p) s = .next ((s.putPort p y).answer (portScope p) 0 tag 0x08
              [BitVec.ofNat 16 (s.straps.unitAddress.toNat + 256 * (if s.straps.role = .follower then 1 else 0)
                + 512 * s.straps.refLane.val), s.unanswered, s.droppedApplied])))

/-- The absence timeout of a channel (R60, R61, R127): its eight sources are absent and its timer stops, unless a bundle has
restarted it since the timeout fell due (log entry 19); nothing else changes. A timeout that has fallen due is taken when
its turn comes on an empty queue (model's choice, log entry 2), so after a bundle taken first the channel ends absent with
its timer running. -/
def Obligations.AbsenceTimeoutEndsPresence : Prop :=
  ∀ (p : PortIx) (c : ChanIx) (s : State), s.resetHeld = false →
    ∃ t, exec (.channelAbsenceTimeout p c) s = .next t ∧ t = { s with ports := t.ports, sources := t.sources }
      ∧ (s.pending = [] → (p = 1 → portDue 0 s.ports[0] = []) → (s.ports[p]).absenceDue[c] = true →
          (∀ b : ChanIx, b < c → (s.ports[p]).absenceDue[b] = false) → step s = .next t)
      ∧ t.ports = s.ports.set p.val { s.ports[p] with
          absence := (s.ports[p]).absence.set c.val
            (match (s.ports[p]).absence[c] with
              | some k => if k < 2048 then some k else none
              | none => none) c.isLt
          absenceDue := (s.ports[p]).absenceDue.set c.val false c.isLt } p.isLt
      ∧ ∀ i : SourceIx, if i.val / 8 = 16 + 4 * p.val + c.val then (t.sources[i]).lostFrom s.sources[i]
        else t.sources[i] = s.sources[i]

/-- A port period by the transmit state (R133, R135): DISABLED keeps the bundle count; STALLED raises it and writes nothing;
RUNNING with no running channel raises it and writes the oldest reply for the port as a control bundle when it fits. RUNNING
with running channels is SoundBundleFollowsRoom's. -/
def Obligations.PortPeriodByState : Prop :=
  ∀ (p : PortIx) (s : State), s.resetHeld = false →
    let x := { s.ports[p] with periodDue := false }
    let counted := { x with nextCount := x.nextCount + 1 }
    (x.transmit = .disabled → exec (.portPeriod p) s = .next (s.putPort p x))
    ∧ (x.transmit = .stalled → exec (.portPeriod p) s = .next (s.putPort p counted))
    ∧ (x.transmit = .running → x.running = Vector.replicate 4 false →
        (s.noReplyFor (8 + p.val) → exec (.portPeriod p) s = .next (s.putPort p counted))
        ∧ ∀ (before after : List Reply) (r : Reply), s.replies = before ++ r :: after → r.iface.val = 8 + p.val →
            (∀ z ∈ before, z.iface.val ≠ 8 + p.val) →
            exec (.portPeriod p) s = .next
              (if r.payload.length + 3 ≤ 2048 - x.outFifo.length then
                { s.putPort p { counted with
                    outFifo := x.outFifo ++ { marker := true, data := 0x0701 } :: { marker := false, data := 0 } ::
                      r.payload.map (fun d => { marker := false, data := d }) ++ [{ marker := true, data := 2 }] } with
                  replies := before ++ after }
              else s.putPort p counted))

/-- A port period of a RUNNING port, whatever channels run and whatever replies wait (R29, R30, R106, R133 to R135). Each
running channel in rising order has its sound bundle of the period's one count, from 16 reads of its eight destinations; it is
written whole in 259 free places or more, cut short by ERROR END in 3 to 258, skipped in fewer, so behind a bundle cut short
the later ones find no place. Then the oldest reply for the port is written as a control bundle when it fits and leaves the
queue, and else stays. The reads are made whatever is written, the destinations of other channels stand, and the count rises
by one. -/
def Obligations.SoundBundleFollowsRoom : Prop :=
  ∀ (p : PortIx) (s : State), s.resetHeld = false → (s.ports[p]).transmit = .running →
    let x := s.ports[p]
    let outs (c : ChanIx) (track : Fin 8) :=
      (readMany s.sources s.entries[portTrack p c track] 16 s.dests[portTrack p c track]).2
    ∃ (t : State) (bundle : ChanIx → List PortWord), exec (.portPeriod p) s = .next t
      ∧ t = { s with ports := t.ports, dests := t.dests, replies := t.replies }
      ∧ (∀ c : ChanIx, (bundle c).length = 259
        ∧ (bundle c)[0]? = some { marker := true, data := BitVec.ofNat 16 (256 * c.val + 1) }
        ∧ (bundle c)[1]? = some { marker := false, data := BitVec.ofNat 16 (256 * x.nextCount.toNat + 16) }
        ∧ (bundle c)[258]? = some { marker := true, data := 2 }
        ∧ ∀ (i : Fin 16) (track : Fin 8), ∃ o, (outs c track)[i.val]? = some o
          ∧ (bundle c)[2 + 2 * (8 * i.val + track.val)]? =
              some { marker := false, data := BitVec.ofNat 16 (o.value.toNat / 256) }
          ∧ (bundle c)[3 + 2 * (8 * i.val + track.val)]? =
              some { marker := false
                     data := BitVec.ofNat 16 (o.value.toNat % 256 * 256 + (if o.valid then 1 else 0)) })
      ∧ (let y := x.offered ((([0, 1, 2, 3] : List ChanIx).filter fun c => x.running[c]).map bundle)
        let reply : List PortWord := (s.replies.find? fun r => decide (r.iface.val = 8 + p.val)).elim [] fun r =>
          { marker := true, data := 0x0701 } :: { marker := false, data := 0 } ::
            r.payload.map (fun d => { marker := false, data := d }) ++ [{ marker := true, data := 2 }]
        let fits := decide (y.outFifo.length + reply.length ≤ 2048)
        t.ports = s.ports.set p.val { y with
            periodDue := false
            nextCount := x.nextCount + 1
            outFifo := y.outFifo ++ (if fits then reply else []) } p.isLt
          ∧ t.replies = if fits then s.replies.eraseP (fun r => decide (r.iface.val = 8 + p.val)) else s.replies)
      ∧ (∀ (c : ChanIx) (d : DestIx), d.val / 8 = 16 + 4 * p.val + c.val →
          t.dests[d] = if x.running[c] then (readMany s.sources s.entries[d] 16 s.dests[d]).1 else s.dests[d])
      ∧ ∀ d : DestIx, d.val / 32 ≠ 4 + p.val → t.dests[d] = s.dests[d]

/-- Stall and resume (R84, R131, R132): a stall stops every channel of a RUNNING port; a word taken from a full out FIFO
returns the stall timer to 0, and one that leaves a STALLED port 1024 words or fewer makes it RUNNING again. The stall timer
as a stall leaves it is log entry 20's; that a stall of a port not RUNNING changes nothing is log entries 1's and 20's; that a
word taken from a full FIFO at stall timer 48000, before the stall, leaves the port RUNNING with timer 0 is log entry 31's. -/
def Obligations.StallStopsAndWordsResume : Prop :=
  ∀ (p : PortIx) (s : State), s.resetHeld = false →
    let x := s.ports[p]
    (x.transmit ≠ .running → exec (.transmitStall p) s = .next s)
    ∧ (x.transmit = .running → ∃ t, exec (.transmitStall p) s = .next t
        ∧ t = { s with ports := t.ports, dests := t.dests }
        ∧ t.ports = s.ports.set p.val { x with
            transmit := .stalled, running := Vector.replicate 4 false, stallTimer := 48000 } p.isLt
        ∧ ∀ d : DestIx, if d.val / 32 = 4 + p.val then (t.dests[d]).stoppedFrom s.dests[d]
          else t.dests[d] = s.dests[d])
    ∧ (x.outFifo = [] → exec (.outFifoWordTaken p) s = .next s)
    ∧ ∀ (w : PortWord) (rest : List PortWord), x.outFifo = w :: rest →
        let resumes := decide (x.transmit = .stalled ∧ rest.length ≤ 1024)
        exec (.outFifoWordTaken p) s = .next (s.putPort p { x with
          outFifo := rest
          linkOut := some w
          stallTimer := if resumes ∨ 2048 ≤ x.outFifo.length then 0 else x.stallTimer
          transmit := if resumes then .running else x.transmit })

/-! ### Lane loss under a pending take -/

/-- A take PENDING on the scope of a lane that is lost is applied at the loss, whether the lane loses its signal (R1), a
frame start closes a frame of another format, of none or of fewer than 1120 lines, or a 1121st line begins (R2, R4): after
the lane's groups have stopped and its sources are absent, and before its replies are purged, so an APPLIED reply of the
lane itself is counted as discarded (R14, R15, R85, R130, R145, R157 to R160, R165, R166). Each latched destination acts once
on its new entry (R86 to R88), after its group has stopped. In states whose records and output sides agree. The line count 0
after a 1121st line is log entry 9's; that a line parsed but not built leaves in bypass at the frame start is log entry 28's;
that a sample still held behind a port frame falls before the port falls back is log entry 32's. -/
def Obligations.LaneLossAppliesTake : Prop :=
  ∀ (n : LaneIx) (k : Take) (s : State), s.resetHeld = false → (s.lanes[n]).inputState = .locked →
    s.take = some k → k.state = .pending → k.scope.val = n.val → s.outputsConsistent →
    (∃ t, exec (.linkSignalLost n) s = .next t ∧ s.lostLaneTaking n k t
      ∧ (t.lanes[n]).inputState = .noSignal ∧ (t.lanes[n]).format = none ∧ (t.lanes[n]).frameOpen = false
      ∧ (t.lanes[n]).lineCount = 0 ∧ (t.lanes[n]).linkOut = [] ∧ (t.lanes[n]).linkSignal = false)
    ∧ (∀ timing : Option Format, (s.lanes[n]).frameOpen = true →
        ((s.lanes[n]).lineCount < 1120 ∨ timing ≠ (s.lanes[n]).format ∨ timing = none) →
        ∃ t, exec (.frameStart n timing) s = .next t ∧ s.lostLaneTaking n k t
          ∧ (t.lanes[n]).inputState = .acquiring
          ∧ (t.lanes[n]).format = (if (s.lanes[n]).lineCount < 1120 then none else timing)
          ∧ (t.lanes[n]).frameOpen = true ∧ (t.lanes[n]).lineCount = 0
          ∧ (t.lanes[n]).linkOut = (s.lanes[n]).awaiting.elim (s.lanes[n]).linkOut AwaitingBuild.blanking)
    ∧ ∀ blanking : List Word, (s.lanes[n]).frameOpen = true → 1120 ≤ (s.lanes[n]).lineCount →
        ∃ t, exec (.inputCarriageLine n blanking) s = .next t ∧ s.lostLaneTaking n k t
          ∧ (t.lanes[n]).inputState = .acquiring ∧ (t.lanes[n]).format = none ∧ (t.lanes[n]).frameOpen = false
          ∧ (t.lanes[n]).lineCount = 0 ∧ (t.lanes[n]).linkOut = blanking

/-! ### READ requests -/

/-- READ ROUTE and READ ROUTE STATE (R26, R27, R66, R68, R89, R165, R167): a DONE reply with the committed entry, or with the
live record; nothing else changes. Bit 3 of the stream word is read as log entry 7 says, and gain 0 and read count 0 of a
destination that reads no source stream are log entry 17's. -/
def Obligations.RouteReadsReport : Prop :=
  ∀ (i : Iface) (tag : Word) (d : DestIx) (s : State), s.resetHeld = false → s.replies.length < 8 →
    let e := s.entries[d]
    let r := s.dests[d]
    let bit (b : Bool) (weight : Nat) : Nat := if b then weight else 0
    let source : Option SourceStream := match r.current with
      | some (.source x) => some x
      | _ => none
    let fill : Nat := match r.current with
      | some (.fill .silence) => 8
      | some (.fill (.hold _)) => 12
      | _ => 0
    let code : Nat := match r.state with
      | .idle => 0
      | .parked => 1
      | .active => 2
      | .filling => 3
    exec (.readRoute i tag [BitVec.ofNat 16 d.val]) s = .next (s.answer i 0 tag 0x01
        ([BitVec.ofNat 16 d.val,
          BitVec.ofNat 16 (bit e.enabled 1 + bit e.invert 2 + bit e.mute 4 + bit (decide (e.absenceFill = .hold)) 8
            + bit e.silenceWatch 16 + bit (decide (e.policy = .latched)) 32 + 256 * e.candidates.length),
          BitVec.ofNat 16 (e.failCode.val + 16 * e.revertCode.val), e.gain, BitVec.ofNat 16 e.delay]
        ++ e.candidates.map fun c => BitVec.ofNat 16 c.val))
      ∧ exec (.readRouteState i tag [BitVec.ofNat 16 d.val]) s = .next (s.answer i 0 tag 0x02
        ([BitVec.ofNat 16 d.val, BitVec.ofNat 16 (code + 256 * r.active.getD 255),
          source.elim 0xFFFF fun x => BitVec.ofNat 16 x.source.val]
        ++ countData (source.elim 0 SourceStream.readCount)
        ++ [BitVec.ofNat 16 (bit (source.any SourceStream.invert) 1 + bit (source.any SourceStream.mute) 2 + fill
              + bit r.old.isSome 16),
          source.elim 0 SourceStream.gain, BitVec.ofNat 16 r.fade]
        ++ sampleData r.lastOut
        ++ [r.counters.failovers, r.counters.reverts, r.counters.realigns, r.counters.reseats, r.counters.starves,
          r.counters.laps]))

/-- READ LANE, READ PORT, READ REFERENCE, READ TAKE and READ DEVICE (R26, R27, R138, R149, R167, R171): a DONE reply with the
block's data; nothing else changes. The budget in force is 0 on a lane that is not LOCKED; a LOCKED one has a format (R3).
Plan word B of an internal clock is log entry 17's. -/
def Obligations.BlockReadsReport : Prop :=
  ∀ (i : Iface) (tag : Word) (s : State), s.resetHeld = false → s.replies.length < 8 →
    let bit (b : Bool) (weight : Nat) : Nat := if b then weight else 0
    let nibbles (a b c d : Nat) : Word := BitVec.ofNat 16 (a + 16 * b + 256 * c + 4096 * d)
    let mode (m : GroupMode) : Nat := match m with
      | .pass => 0
      | .strip => 1
      | .embedFull => 2
      | .embedCompact => 3
    let format (f : Option Format) : Nat := match f with
      | some .f23 => 0
      | some .f24 => 1
      | some .f25 => 2
      | some .f29 => 3
      | some .f30 => 4
      | some .f50 => 5
      | some .f59 => 6
      | some .f60 => 7
      | none => 255
    let input (x : InputState) : Nat := match x with
      | .noSignal => 0
      | .acquiring => 1
      | .locked => 2
    let transmit (x : TransmitState) : Nat := match x with
      | .disabled => 0
      | .running => 1
      | .stalled => 2
    let clock (c : Clock) : Word := match c with
      | .lane n => BitVec.ofNat 16 n.val
      | .station => 8
    let phase (n : LaneIx) : Nat :=
      if (s.lanes[n]).inputState = .locked ∧ ((s.lanes[n]).format = some .f29 ∨ (s.lanes[n]).format = some .f59) then
        (s.ref.phase[n]).val
      else 7
    let depth (scope : Iface) : Nat := (s.undo[scope]).length
    (∀ n : LaneIx, let l := s.lanes[n]
      (l.inputState = .locked → l.format ≠ none) →
      exec (.readLane i tag [BitVec.ofNat 16 n.val]) s = .next (s.answer i 0 tag 0x04
        ([BitVec.ofNat 16 n.val, BitVec.ofNat 16 (input l.inputState + 256 * format l.format),
          BitVec.ofNat 16 (mode l.plan.modes[0] + 4 * mode l.plan.modes[1] + 16 * mode l.plan.modes[2]
            + 64 * mode l.plan.modes[3]),
          BitVec.ofNat 16 (l.plan.budget.getD 0),
          BitVec.ofNat 16 (if l.inputState = .locked then l.budgetOn (l.format.getD .f23) else 0),
          BitVec.ofNat 16 (l.rotation.val + bit (decide (l.replyTurn = .after)) 256),
          nibbles l.queues[0].length l.queues[1].length l.queues[2].length l.queues[3].length,
          l.counters.malformed, l.counters.damaged, l.counters.displaced, l.counters.overrun[0], l.counters.overrun[1],
          l.counters.overrun[2], l.counters.overrun[3], l.counters.slips, l.counters.discardedReplies])))
    ∧ (∀ p : PortIx, let x := s.ports[p]
      let present (c : ChanIx) : Bool :=
        (List.finRange 8).all fun track => (s.sources[portTrack p c track]).present
      exec (.readPort i tag [BitVec.ofNat 16 p.val]) s = .next (s.answer i 0 tag 0x05
        [BitVec.ofNat 16 p.val, BitVec.ofNat 16 (bit x.receiveEnable 1 + 256 * transmit x.transmit),
          BitVec.ofNat 16 (bit x.plan.channels[0] 1 + bit x.plan.channels[1] 2 + bit x.plan.channels[2] 4
            + bit x.plan.channels[3] 8),
          clock x.plan.clock, clock x.clock, BitVec.ofNat 16 x.inFifo.length, BitVec.ofNat 16 x.outFifo.length,
          BitVec.ofNat 16 (bit (present 0) 1 + bit (present 1) 2 + bit (present 2) 4 + bit (present 3) 8),
          BitVec.ofNat 16 x.nextCount.toNat, x.counters.discarded, x.counters.truncated, x.counters.skipped,
          x.counters.fallbacks]))
    ∧ exec (.readReference i tag []) s = .next (s.answer i 0 tag 0x06
        [BitVec.ofNat 16 s.ref.count.val,
          BitVec.ofNat 16 (bit (decide (s.ref.role = .follower)) 1 + 256 * s.ref.refLane.val),
          BitVec.ofNat 16 (s.ref.markIn.toNat + 256 * s.ref.markOut.toNat),
          BitVec.ofNat 16 (((List.finRange 8).map fun n => bit (s.ref.pendingMark[n]).isSome (2 ^ n.val)).sum),
          nibbles (phase 0) (phase 1) (phase 2) (phase 3), nibbles (phase 4) (phase 5) (phase 6) (phase 7),
          s.ref.inStep, s.ref.jumps, s.ref.invalid, s.ref.ignored])
    ∧ exec (.readTake i tag []) s = .next (s.answer i 0 tag 0x07
        [s.take.elim 0xFF00 fun k => BitVec.ofNat 16 ((if k.state = .opened then 1 else 2) + 256 * k.scope.val),
          s.take.elim 0xFFFF fun k => BitVec.ofNat 16 k.owner.val,
          s.take.elim 0 fun k => BitVec.ofNat 16 (k.latches.length + bit k.plan.isSome 256),
          nibbles (depth 0) (depth 1) (depth 2) (depth 3), nibbles (depth 4) (depth 5) (depth 6) (depth 7),
          nibbles (depth 8) (depth 9) 0 0])
    ∧ exec (.readDevice i tag []) s = .next (s.answer i 0 tag 0x08
        [BitVec.ofNat 16 (s.straps.unitAddress.toNat + bit (decide (s.straps.role = .follower)) 256
          + 512 * s.straps.refLane.val), s.unanswered, s.droppedApplied])

/-! ### Sources, settings, counters, reset -/

/-- READ SOURCE replies with the source's record and clears its peak; SET SOURCE stores the silence level, clamped to 32767
and then answered ADJUSTED (R27, R56, R63, R165). -/
def Obligations.SourceIsReadAndSet : Prop :=
  ∀ (i : Iface) (tag : Word) (k : SourceIx) (s : State), s.resetHeld = false → s.replies.length < 8 →
    let x := s.sources[k]
    exec (.readSource i tag [BitVec.ofNat 16 k.val]) s = .next ((s.putSource k { x with peak := 0 }).answer i 0 tag 0x03
        ([BitVec.ofNat 16 k.val, BitVec.ofNat 16 x.silenceLevel,
          BitVec.ofNat 16 ((if x.present then 1 else 0) + (if x.blockLoud then 2 else 0) + 256 * x.blockPosition)]
        ++ countData x.writeCount ++ [BitVec.ofNat 16 x.validSpan] ++ sampleData x.lastSample
        ++ [BitVec.ofNat 16 x.silentRun, BitVec.ofNat 16 x.activeRun, BitVec.ofNat 16 x.presentRun,
          BitVec.ofNat 16 x.peak, x.dropped, x.gaps]))
      ∧ ∀ level : Word, exec (.setSource i tag [BitVec.ofNat 16 k.val, level]) s =
          .next ((s.putSource k { x with silenceLevel := min 32767 level.toNat }).answer i
            (if level.toNat ≤ 32767 then 0 else 1) tag 0x10 [])

/-- SET REFERENCE (R25, R143, R145): role, reference lane and mark sets as written; pending marks stay only on lanes of the
new mark-output set of a FOLLOWER; a preset below 60000 also sets the count and raises every LOCKED lane's realign flag; one
from 60000 on is BAD REQUEST, with nothing taken. -/
def Obligations.ReferenceIsSet : Prop :=
  ∀ (i : Iface) (tag reference marks : Word) (s : State), s.resetHeld = false → s.replies.length < 8 →
    let follows := decide (reference.toNat % 2 = 1)
    let settled (r : Reference) : Prop :=
      r.role = (if follows then .follower else .leader)
        ∧ r.refLane.val = reference.toNat / 256 % 8
        ∧ (∀ m : LaneIx, inSet r.markIn m = marks.getLsbD m.val ∧ inSet r.markOut m = marks.getLsbD (8 + m.val))
        ∧ (∀ m : LaneIx, r.pendingMark[m] =
            if follows ∧ marks.getLsbD (8 + m.val) = true then s.ref.pendingMark[m] else none)
        ∧ r.phase = s.ref.phase ∧ r.inStep = s.ref.inStep ∧ r.jumps = s.ref.jumps ∧ r.invalid = s.ref.invalid
        ∧ r.ignored = s.ref.ignored
    (∃ r : Reference, exec (.setReference i tag [reference, marks]) s =
        .next ({ s with ref := r }.answer i 0 tag 0x11 [])
      ∧ settled r ∧ r.count = s.ref.count ∧ r.realign = s.ref.realign)
    ∧ (∀ preset : Word, preset.toNat < 60000 →
        ∃ r : Reference, exec (.setReference i tag [reference, marks, preset]) s =
            .next ({ s with ref := r }.answer i 0 tag 0x11 [])
          ∧ settled r ∧ r.count.val = preset.toNat
          ∧ ∀ m : LaneIx, r.realign[m] = (s.ref.realign[m] || decide ((s.lanes[m]).inputState = .locked)))
    ∧ ∀ preset : Word, 60000 ≤ preset.toNat →
        exec (.setReference i tag [reference, marks, preset]) s = .next (s.answer i 0x15 tag 0x11 [])

/-- SET PORT (R60, R84, R85, R128, R131, R166): disabling an enabled receive side empties it, makes the port's sources absent
and purges the port's replies; disabling transmit from RUNNING or STALLED stops the port's channels; enabling a DISABLED one
makes it RUNNING; a side already as asked is left as it is. The DONE reply is queued last. That an absence timeout which
has fallen due is forgotten when the receive side stops is log entry 19's. -/
def Obligations.PortIsSet : Prop :=
  ∀ (i : Iface) (tag enables : Word) (p : PortIx) (s : State), s.resetHeld = false → s.replies.length < 8 →
    let receive := decide (enables.toNat % 2 = 1)
    let transmit := decide (enables.toNat / 2 % 2 = 1)
    let x := s.ports[p]
    let stopsReceive := x.receiveEnable && !receive
    let stopsTransmit := !transmit && decide (x.transmit ≠ .disabled)
    let y := if stopsReceive then
        { x with
          receiveEnable := false, inFifo := [], staging := .idle, prevCount := Vector.replicate 4 none
          absence := Vector.replicate 4 none, absenceDue := Vector.replicate 4 false }
      else { x with receiveEnable := receive }
    let z := if stopsTransmit then { y with transmit := .disabled, running := Vector.replicate 4 false }
      else if transmit = true ∧ x.transmit = .disabled then { y with transmit := .running, stallTimer := 0 }
      else y
    let kept := if stopsReceive then s.replies.filter (fun r => decide (r.iface.val ≠ 8 + p.val)) else s.replies
    ∃ t, exec (.setPort i tag [BitVec.ofNat 16 p.val, enables]) s = .next t
      ∧ t = { s.putPort p z with sources := t.sources, dests := t.dests, replies := t.replies }
      ∧ t.replies = ({ s with replies := kept }.answer i 0 tag 0x12 []).replies
      ∧ (∀ k : SourceIx, if stopsReceive = true ∧ k.val / 32 = 4 + p.val then (t.sources[k]).lostFrom s.sources[k]
          else t.sources[k] = s.sources[k])
      ∧ ∀ d : DestIx, if stopsTransmit = true ∧ d.val / 32 = 4 + p.val then (t.dests[d]).stoppedFrom s.dests[d]
          else t.dests[d] = s.dests[d]

/-- CLEAR COUNTERS sets every counter of the part to 0 and keeps everything else; its DONE reply is queued after (R169). -/
def Obligations.CountersAreCleared : Prop :=
  ∀ (i : Iface) (tag : Word) (s : State), s.resetHeld = false → s.replies.length < 8 →
    ∃ t : State, exec (.clearCounters i tag []) s = .next (t.answer i 0 tag 0x18 [])
      ∧ t = { s with
          lanes := t.lanes, sources := t.sources, dests := t.dests, ports := t.ports
          ref := { s.ref with inStep := 0, jumps := 0, invalid := 0, ignored := 0 }
          unanswered := 0, droppedApplied := 0 }
      ∧ (∀ n : LaneIx, t.lanes[n] = { s.lanes[n] with
          counters := {
            malformed := 0, damaged := 0, displaced := 0, overrun := Vector.replicate 4 0, slips := 0
            discardedReplies := 0 } })
      ∧ (∀ k : SourceIx, t.sources[k] = { s.sources[k] with dropped := 0, gaps := 0 })
      ∧ (∀ d : DestIx, t.dests[d] = { s.dests[d] with
          counters := { failovers := 0, reverts := 0, realigns := 0, reseats := 0, starves := 0, laps := 0 } })
      ∧ ∀ p : PortIx, t.ports[p] = { s.ports[p] with
          counters := { discarded := 0, truncated := 0, skipped := 0, fallbacks := 0 } }

/-- RESET UNIT clears what each block's rule gives and keeps the rest: input records, plans, straps, committed entries, RC and
the settings of the frame count unit, silence levels, buffers, port enables, positions and clocks (R16, R49, R65, R90, R137,
R148, R162, R170). Its DONE reply is the only entry of the queue. That an absence timeout which has fallen due is forgotten at
the reset is log entry 19's. -/
def Obligations.UnitIsReset : Prop :=
  ∀ (i : Iface) (tag : Word) (s : State), s.resetHeld = false → s.replies.length < 8 →
    ∃ t : State, exec (.resetUnit i tag []) s = .next (t.answer i 0 tag 0x19 [])
      ∧ t = { s with
          lanes := t.lanes, sources := t.sources, dests := t.dests, ports := t.ports, take := none, undo := t.undo
          replies := [], unanswered := 0, droppedApplied := 0
          ref := { s.ref with
            pendingMark := Vector.replicate 8 none, realign := Vector.replicate 8 false
            inStep := 0, jumps := 0, invalid := 0, ignored := 0 } }
      ∧ (∀ scope : Iface, t.undo[scope] = [])
      ∧ (∀ n : LaneIx, t.lanes[n] = { s.lanes[n] with
          queues := Vector.replicate 4 [], running := Vector.replicate 4 false, rotation := 0, replyTurn := .before
          seen := Vector.replicate 4 false
          counters := {
            malformed := 0, damaged := 0, displaced := 0, overrun := Vector.replicate 4 0, slips := 0
            discardedReplies := 0 } })
      ∧ (∀ k : SourceIx, t.sources[k] = {
          silenceLevel := (s.sources[k]).silenceLevel, buffer := (s.sources[k]).buffer
          present := false, writeCount := 0, validSpan := 0, lastSample := 0, blockPosition := 0, blockLoud := false
          silentRun := 0, activeRun := 0, presentRun := 0, peak := 0, dropped := 0, gaps := 0 })
      ∧ (∀ d : DestIx, t.dests[d] = {
          state := if (s.entries[d]).enabled then .parked else .idle
          active := none, current := none, old := none, fade := 32, lastOut := 0
          counters := { failovers := 0, reverts := 0, realigns := 0, reseats := 0, starves := 0, laps := 0 } })
      ∧ ∀ p : PortIx, t.ports[p] = { s.ports[p] with
          inFifo := [], outFifo := [], staging := .idle, prevCount := Vector.replicate 4 none
          absence := Vector.replicate 4 none, absenceDue := Vector.replicate 4 false, stallTimer := 0, nextCount := 0
          transmit := if (s.ports[p]).transmit = .stalled then .running else (s.ports[p]).transmit
          running := Vector.replicate 4 false
          counters := { discarded := 0, truncated := 0, skipped := 0, fallbacks := 0 } }

/-! ### Taking a request -/

/-- The first two tests of every request, of every row and of an unknown kind (R25, R143, R163, R171): with 8 replies queued
it is dropped unexamined and counted; with a wrong parameter count, an index outside its range, a preset of 60000 or more or
an unknown kind it is answered BAD REQUEST and has no other effect. -/
def Obligations.RoomAndFormComeFirst : Prop :=
  ∀ (c : Instr) (q : Request) (s : State), s.resetHeld = false → requestOf c = some q →
    (8 ≤ s.replies.length → exec c s = .next { s with unanswered := raise s.unanswered 1 })
    ∧ (s.replies.length < 8 → q.formed = false → exec c s = .next (s.answer q.iface 0x15 q.tag q.kind []))

/-! ### Takes -/

/-- OPEN TAKE is TAKE HELD while any take exists, and else creates an OPEN take of the arrival interface; an ABANDON TAKE of
the owner discards an OPEN take, and is answered PENDING on a PENDING one; the expiry of an OPEN take discards it without a
reply, and touches no PENDING one (R151, R154, R156). The tag 0 of a created take is log entry 18's. -/
def Obligations.TakeOpensAndEnds : Prop :=
  ∀ s : State, s.resetHeld = false →
    (∀ (i : Iface) (tag : Word) (scope : Iface), s.replies.length < 8 →
      exec (.openTake i tag [BitVec.ofNat 16 scope.val]) s = .next
        (if s.take = none then
          { s with take := some {
              state := .opened, scope := scope, owner := i, latches := [], plan := none, expiry := 0, origin := .commit
              tag := 0 } }.answer i 0 tag 0x20 []
        else s.answer i 0x11 tag 0x20 []))
    ∧ (∀ (k : Take) (tag : Word), s.replies.length < 8 → s.take = some k →
      exec (.abandonTake k.owner tag []) s = .next
        (if k.state = .opened then { s with take := none }.answer k.owner 0 tag 0x24 []
        else s.answer k.owner 0x13 tag 0x24 []))
    ∧ (s.take = none → exec .takeExpiry s = .next s)
    ∧ ∀ k : Take, s.take = some k →
      exec .takeExpiry s = .next (if k.state = .opened then { s with take := none } else s)

/-- The tests of R150, in their order, of the four take requests that pass the room and form tests: NO TAKE, TAKE HELD for
another interface, PENDING. -/
def Obligations.TakeTestsInOrder : Prop :=
  ∀ (c : Instr) (q : Request) (s : State), s.resetHeld = false → s.replies.length < 8 → requestOf c = some q →
    (∀ i kind tag params, c ≠ .unknownRequestKind i kind tag params) → q.formed = true →
    (q.kind = 0x21 ∨ q.kind = 0x22 ∨ q.kind = 0x23 ∨ q.kind = 0x24) →
    (s.take = none → exec c s = .next (s.answer q.iface 0x10 q.tag q.kind []))
    ∧ ∀ k : Take, s.take = some k →
      (q.iface ≠ k.owner → exec c s = .next (s.answer q.iface 0x11 q.tag q.kind []))
      ∧ (q.iface = k.owner → k.state = .pending → exec c s = .next (s.answer q.iface 0x13 q.tag q.kind []))

/-- SET ROUTE of the owner of an OPEN take, its tests in order and its latch (R25, R66, R152): destination, scope, candidate
count, candidates; then the whole entry with its delay brought into 128 to 6000, ADJUSTED when that changed it, and the expiry
count 0. -/
def Obligations.RouteIsLatched : Prop :=
  ∀ (tag dest flags codes gain delay : Word) (candidates : List Word) (k : Take) (s : State),
    s.resetHeld = false → s.replies.length < 8 → s.take = some k → k.state = .opened →
    candidates.length = flags.toNat / 256 % 8 →
    let request := Instr.setRoute k.owner tag (dest :: flags :: codes :: gain :: delay :: candidates)
    let refused (status : Nat) : Prop := exec request s = .next (s.answer k.owner status tag 0x21 [])
    let inScope : Prop :=
      if k.scope.val < 8 then dest.toNat / 16 = k.scope.val else dest.toNat / 32 = k.scope.val - 4
    let bit (n : Nat) : Bool := decide (flags.toNat / 2 ^ n % 2 = 1)
    (192 ≤ dest.toNat → refused 0x14)
    ∧ (dest.toNat < 192 → ¬ inScope → refused 0x12)
    ∧ (dest.toNat < 192 → inScope → (4 < candidates.length ∨ (candidates.length = 0 ∧ bit 0 = true)) → refused 0x14)
    ∧ (dest.toNat < 192 → inScope → candidates.length ≤ 4 → (candidates ≠ [] ∨ bit 0 = false) →
        ((∃ w ∈ candidates, 192 ≤ w.toNat) ∨ ¬ candidates.Nodup) → refused 0x14)
    ∧ ∀ (d : DestIx) (sources : List SourceIx), d.val = dest.toNat → inScope →
        candidates = sources.map (fun c => BitVec.ofNat 16 c.val) → sources.Nodup → candidates.length ≤ 4 →
        (candidates ≠ [] ∨ bit 0 = false) →
        let e : RouteEntry := {
          enabled := bit 0, candidates := sources, gain := gain, invert := bit 1, mute := bit 2
          delay := max 128 (min 6000 delay.toNat)
          absenceFill := if bit 3 then .hold else .silence
          silenceWatch := bit 4
          failCode := ⟨codes.toNat % 8, Nat.mod_lt _ (by decide)⟩
          revertCode := ⟨codes.toNat / 16 % 8, Nat.mod_lt _ (by decide)⟩
          policy := if bit 5 then .latched else .auto }
        ∃ latches, exec request s = .next ({ s with take := some { k with latches := latches, expiry := 0 } }.answer
            k.owner (if 128 ≤ delay.toNat ∧ delay.toNat ≤ 6000 then 0 else 1) tag 0x21 [])
          ∧ (∀ c : DestIx, (latches.find? fun x => decide (x.1 = c)) =
              if c = d then some (d, e) else k.latches.find? fun x => decide (x.1 = c))
          ∧ (latchesFit k.latches k.scope = true → latches.length =
              k.latches.length + (if (k.latches.find? fun x => decide (x.1 = d)).isSome then 0 else 1))

/-- SET PLAN of the owner of an OPEN take (R10, R12, R25, R153): OUT OF SCOPE for another scope; otherwise the plan of the
take's scope is latched in place of any before and the expiry count is 0. A lane budget of 0 is absent, another is brought
into 32 to 256, ADJUSTED when that changed it. -/
def Obligations.PlanIsLatched : Prop :=
  ∀ (tag a b : Word) (scope : Iface) (k : Take) (s : State),
    s.resetHeld = false → s.replies.length < 8 → s.take = some k → k.state = .opened →
    let request := Instr.setPlan k.owner tag [BitVec.ofNat 16 scope.val, a, b]
    let latched (plan : ScopePlan) (status : Nat) : State :=
      { s with take := some { k with plan := some plan, expiry := 0 } }.answer k.owner status tag 0x22 []
    (scope ≠ k.scope → exec request s = .next (s.answer k.owner 0x12 tag 0x22 []))
    ∧ (scope = k.scope → scope.val < 8 →
        ∃ plan : LanePlan, exec request s = .next
            (latched (.lane plan) (if b.toNat = 0 ∨ (32 ≤ b.toNat ∧ b.toNat ≤ 256) then 0 else 1))
          ∧ plan.budget = (if b.toNat = 0 then none else some (max 32 (min 256 b.toNat)))
          ∧ ∀ g : GroupIx,
            let code := a.toNat / 4 ^ g.val % 4
            (code = 0 → plan.modes[g] = .pass) ∧ (code = 1 → plan.modes[g] = .strip)
              ∧ (code = 2 → plan.modes[g] = .embedFull) ∧ (code = 3 → plan.modes[g] = .embedCompact))
    ∧ (scope = k.scope → 8 ≤ scope.val →
        ∃ plan : PortPlan, exec request s = .next (latched (.port plan) 0)
          ∧ (∀ c : ChanIx, plan.channels[c] = decide (a.toNat / 2 ^ c.val % 2 = 1))
          ∧ if b.toNat / 8 % 2 = 1 then plan.clock = .station
            else ∃ n : LaneIx, n.val = b.toNat % 8 ∧ plan.clock = .lane n)

/-- COMMIT TAKE and UNDO TAKE make a take PENDING without a reply where its boundary is to come, on a LOCKED lane or a port,
and apply it at once on a lane that is not LOCKED (R155, R157 to R161, R165); UNDO TAKE is TAKE HELD while a take exists and
EMPTY on an empty stack. What is applied at once leaves the plan, emptied carry queues where an EMBED mode ended, and each
latched destination as its new entry leaves it (R11, R86 to R88), and keeps the rest of the lane, every other block and every
destination not latched; it is said of states whose records and output sides agree. The expiry count 0 of an undone take is
log entry 18's. -/
def Obligations.CommitAndUndoWaitOrApply : Prop :=
  ∀ (tag : Word) (s : State), s.resetHeld = false → s.replies.length < 8 →
    let waits (scope : Iface) : Prop := ∀ n : LaneIx, scope = laneScope n → (s.lanes[n]).inputState = .locked
    let appliedAtOnce (before t : State) (k : Take) : Prop :=
      ∃ n : LaneIx, k.scope = laneScope n ∧ before.tookTake t k (.lane (before.lanes[n]).plan)
        ∧ (t.lanes[n]).plan = (match k.plan with
            | some (.lane new) => new
            | _ => (s.lanes[n]).plan)
        ∧ (∀ g : GroupIx, (t.lanes[n]).queues[g] =
            if embeds (s.lanes[n]).plan.modes[g] ∧ ¬ embeds (t.lanes[n]).plan.modes[g] then []
            else (s.lanes[n]).queues[g])
        ∧ t.lanes = s.lanes.set n.val { s.lanes[n] with
            plan := (t.lanes[n]).plan, queues := (t.lanes[n]).queues, running := Vector.replicate 4 false } n.isLt
        ∧ t.ports = s.ports ∧ t.ref = s.ref ∧ t.latchedActed k ∧ before.latchedEntered t k
        ∧ ∀ d : DestIx, (∀ c ∈ k.latches, c.1 ≠ d) → t.dests[d] = s.dests[d]
    (∀ k : Take, s.take = some k → k.state = .opened →
      let made := { k with state := .pending, origin := .commit, tag := tag }
      (waits k.scope → exec (.commitTake k.owner tag []) s = .next { s with take := some made })
      ∧ (¬ waits k.scope → s.outputsConsistent →
          ∃ t, exec (.commitTake k.owner tag []) s = .next t ∧ appliedAtOnce s t made))
    ∧ ∀ (i scope : Iface),
      let request := Instr.undoTake i tag [BitVec.ofNat 16 scope.val]
      (s.take ≠ none → exec request s = .next (s.answer i 0x11 tag 0x25 []))
      ∧ (s.take = none → s.undo[scope] = [] → exec request s = .next (s.answer i 0x16 tag 0x25 []))
      ∧ ∀ (u : UndoRecord) (rest : List UndoRecord), s.take = none → s.undo[scope] = u :: rest →
          let popped := { s with undo := s.undo.set scope.val rest scope.isLt }
          let made : Take := {
            state := .pending, scope := scope, owner := i, latches := u.entries, plan := u.plan, expiry := 0
            origin := .undo, tag := tag }
          (waits scope → exec request s = .next { popped with take := some made })
          ∧ (¬ waits scope → s.outputsConsistent →
              ∃ t, exec request s = .next t ∧ appliedAtOnce popped t made)

/-- What is read can be set again (R25, R27, R143, R152, R153): the data of READ ROUTE, sent as a SET ROUTE, latches exactly
the committed entry; the plan words of READ LANE and READ PORT latch exactly the committed plan; the reference and mark sets
words of READ REFERENCE set what was set. Nothing is ADJUSTED. -/
def Obligations.ReadDataSetsBack : Prop :=
  ∀ (tag : Word) (s : State), s.resetHeld = false → s.replies.length < 8 → s.entriesSound →
    (∀ k : Take, s.take = some k → k.state = .opened →
      let latched (plan : ScopePlan) : State :=
        { s with take := some { k with plan := some plan, expiry := 0 } }.answer k.owner 0 tag 0x22 []
      (∀ d : DestIx, trackScope d = k.scope →
        exec (.setRoute k.owner tag (routeData d s.entries[d])) s =
          .next ({ s with take := some { k with latches := latchEntry k.latches d s.entries[d], expiry := 0 } }.answer
            k.owner 0 tag 0x21 []))
      ∧ (∀ n : LaneIx, k.scope = laneScope n → ∃ a b : Word,
          let data := laneData n s.lanes[n]
          data = data.take 2 ++ a :: b :: data.drop 4
          ∧ exec (.setPlan k.owner tag [BitVec.ofNat 16 n.val, a, b]) s = .next (latched (.lane (s.lanes[n]).plan)))
      ∧ ∀ p : PortIx, k.scope = portScope p → ∃ a b : Word,
          let data := portData p s.ports[p] (channelPresent s p)
          data = data.take 2 ++ a :: b :: data.drop 4
          ∧ exec (.setPlan k.owner tag [BitVec.ofNat 16 (8 + p.val), a, b]) s =
            .next (latched (.port (s.ports[p]).plan)))
    ∧ ∀ i : Iface, s.marksSound → ∃ reference marks : Word,
        referenceData s = (referenceData s).take 1 ++ reference :: marks :: (referenceData s).drop 3
          ∧ exec (.setReference i tag [reference, marks]) s = .next (s.answer i 0 tag 0x11 [])

/-! ### Invariants -/

/-- Every step keeps the source records within their ranges and every buffer in canonical form, and keeps every queue of the
part within its bound (R50 to R55, R60, R65, R107, R121, R158, R164). -/
def Obligations.StepKeepsSourcesAndQueues : Prop :=
  ∀ s t : State, step s = .next t →
    (s.sourcesSound → t.sourcesSound) ∧ (s.queuesBounded → t.queuesBounded)

/-- Every step keeps every committed, latched and undone entry and plan one that could be committed on its scope, and a
PENDING take only where a boundary is to come (R12, R66, R149, R152, R153, R157, R158). -/
def Obligations.StepKeepsEntriesSound : Prop :=
  ∀ s t : State, step s = .next t →
    (s.entriesSound → t.entriesSound) ∧ (s.takeSound → t.takeSound)

/-- Every step keeps every live record fitting its committed entry (R68 to R70, R74 to R78, R85 to R90); an IDLE one without a
fade has last output sample 0 (R98), where its fade was dropped by log entry 8 and where it has just ended by log entry 30. -/
def Obligations.StepKeepsRecordsFit : Prop :=
  ∀ s t : State, step s = .next t → s.recordsFit → t.recordsFit

/-- Every step keeps output sides and records in agreement: groups and channels run only where they may, and a destination is
PARKED exactly where an enabled one must be (R68, R83 to R85, R157, R159). In states whose live records fit their entries,
which every step keeps too (StepKeepsRecordsFit). -/
def Obligations.StepKeepsOutputsConsistent : Prop :=
  ∀ s t : State, step s = .next t → s.recordsFit → s.outputsConsistent → t.outputsConsistent

/-- Every step keeps each lane's state what its input state allows, presence only where it can be, each port within its
ranges and on the clock its plan gives, and marks and flags only on LOCKED lanes (R1, R2, R11, R14, R16, R61, R107, R108,
R121 to R123, R127, R128, R130, R141, R143, R145). The queue of a group that does not run stays empty, and so does the
receive side of a port while it is disabled. Line count 0 with no frame open is log entry 9's, when an absence timeout is due
is log entry 19's, and when a sample is held is log entry 32's. -/
def Obligations.StepKeepsLanesAndPortsSound : Prop :=
  ∀ s t : State, step s = .next t →
    (s.lanesSound → t.lanesSound) ∧ (s.presenceSound → t.presenceSound) ∧ (s.portsSound → t.portsSound)
      ∧ (s.marksSound → t.marksSound)

/-- The state right after reset meets every invariant. -/
def Obligations.ResetMeetsInvariants : Prop :=
  State.reset.sourcesSound ∧ State.reset.queuesBounded ∧ State.reset.entriesSound ∧ State.reset.takeSound
    ∧ State.reset.recordsFit ∧ State.reset.outputsConsistent ∧ State.reset.lanesSound ∧ State.reset.presenceSound
    ∧ State.reset.portsSound ∧ State.reset.marksSound
end

