-- ==== Sys2Proof/Laws/State.lean ====
section
/-! SUPPORT. One lemma per field for each update of State. -/

namespace Sys2Proof.Machine

/-! ### modifyLane -/

@[simp] theorem State.modifyLane_pending (s : State) (n : LaneIx) (f : Lane → Lane) :
    (s.modifyLane n f).pending = s.pending := rfl

@[simp] theorem State.modifyLane_resetHeld (s : State) (n : LaneIx) (f : Lane → Lane) :
    (s.modifyLane n f).resetHeld = s.resetHeld := rfl

@[simp] theorem State.modifyLane_lanes (s : State) (n : LaneIx) (f : Lane → Lane) :
    (s.modifyLane n f).lanes = modifyAt s.lanes n f := rfl

@[simp] theorem State.modifyLane_sources (s : State) (n : LaneIx) (f : Lane → Lane) :
    (s.modifyLane n f).sources = s.sources := rfl

@[simp] theorem State.modifyLane_entries (s : State) (n : LaneIx) (f : Lane → Lane) :
    (s.modifyLane n f).entries = s.entries := rfl

@[simp] theorem State.modifyLane_dests (s : State) (n : LaneIx) (f : Lane → Lane) :
    (s.modifyLane n f).dests = s.dests := rfl

@[simp] theorem State.modifyLane_ports (s : State) (n : LaneIx) (f : Lane → Lane) :
    (s.modifyLane n f).ports = s.ports := rfl

@[simp] theorem State.modifyLane_ref (s : State) (n : LaneIx) (f : Lane → Lane) :
    (s.modifyLane n f).ref = s.ref := rfl

@[simp] theorem State.modifyLane_take (s : State) (n : LaneIx) (f : Lane → Lane) :
    (s.modifyLane n f).take = s.take := rfl

@[simp] theorem State.modifyLane_undo (s : State) (n : LaneIx) (f : Lane → Lane) :
    (s.modifyLane n f).undo = s.undo := rfl

@[simp] theorem State.modifyLane_replies (s : State) (n : LaneIx) (f : Lane → Lane) :
    (s.modifyLane n f).replies = s.replies := rfl

@[simp] theorem State.modifyLane_straps (s : State) (n : LaneIx) (f : Lane → Lane) :
    (s.modifyLane n f).straps = s.straps := rfl

@[simp] theorem State.modifyLane_unanswered (s : State) (n : LaneIx) (f : Lane → Lane) :
    (s.modifyLane n f).unanswered = s.unanswered := rfl

@[simp] theorem State.modifyLane_droppedApplied (s : State) (n : LaneIx) (f : Lane → Lane) :
    (s.modifyLane n f).droppedApplied = s.droppedApplied := rfl

/-! ### modifyPort -/

@[simp] theorem State.modifyPort_pending (s : State) (p : PortIx) (f : Port → Port) :
    (s.modifyPort p f).pending = s.pending := rfl

@[simp] theorem State.modifyPort_resetHeld (s : State) (p : PortIx) (f : Port → Port) :
    (s.modifyPort p f).resetHeld = s.resetHeld := rfl

@[simp] theorem State.modifyPort_lanes (s : State) (p : PortIx) (f : Port → Port) :
    (s.modifyPort p f).lanes = s.lanes := rfl

@[simp] theorem State.modifyPort_sources (s : State) (p : PortIx) (f : Port → Port) :
    (s.modifyPort p f).sources = s.sources := rfl

@[simp] theorem State.modifyPort_entries (s : State) (p : PortIx) (f : Port → Port) :
    (s.modifyPort p f).entries = s.entries := rfl

@[simp] theorem State.modifyPort_dests (s : State) (p : PortIx) (f : Port → Port) :
    (s.modifyPort p f).dests = s.dests := rfl

@[simp] theorem State.modifyPort_ports (s : State) (p : PortIx) (f : Port → Port) :
    (s.modifyPort p f).ports = modifyAt s.ports p f := rfl

@[simp] theorem State.modifyPort_ref (s : State) (p : PortIx) (f : Port → Port) :
    (s.modifyPort p f).ref = s.ref := rfl

@[simp] theorem State.modifyPort_take (s : State) (p : PortIx) (f : Port → Port) :
    (s.modifyPort p f).take = s.take := rfl

@[simp] theorem State.modifyPort_undo (s : State) (p : PortIx) (f : Port → Port) :
    (s.modifyPort p f).undo = s.undo := rfl

@[simp] theorem State.modifyPort_replies (s : State) (p : PortIx) (f : Port → Port) :
    (s.modifyPort p f).replies = s.replies := rfl

@[simp] theorem State.modifyPort_straps (s : State) (p : PortIx) (f : Port → Port) :
    (s.modifyPort p f).straps = s.straps := rfl

@[simp] theorem State.modifyPort_unanswered (s : State) (p : PortIx) (f : Port → Port) :
    (s.modifyPort p f).unanswered = s.unanswered := rfl

@[simp] theorem State.modifyPort_droppedApplied (s : State) (p : PortIx) (f : Port → Port) :
    (s.modifyPort p f).droppedApplied = s.droppedApplied := rfl

/-! ### modifySource -/

@[simp] theorem State.modifySource_pending (s : State) (i : SourceIx) (f : Source → Source) :
    (s.modifySource i f).pending = s.pending := rfl

@[simp] theorem State.modifySource_resetHeld (s : State) (i : SourceIx) (f : Source → Source) :
    (s.modifySource i f).resetHeld = s.resetHeld := rfl

@[simp] theorem State.modifySource_lanes (s : State) (i : SourceIx) (f : Source → Source) :
    (s.modifySource i f).lanes = s.lanes := rfl

@[simp] theorem State.modifySource_sources (s : State) (i : SourceIx) (f : Source → Source) :
    (s.modifySource i f).sources = modifyAt s.sources i f := rfl

@[simp] theorem State.modifySource_entries (s : State) (i : SourceIx) (f : Source → Source) :
    (s.modifySource i f).entries = s.entries := rfl

@[simp] theorem State.modifySource_dests (s : State) (i : SourceIx) (f : Source → Source) :
    (s.modifySource i f).dests = s.dests := rfl

@[simp] theorem State.modifySource_ports (s : State) (i : SourceIx) (f : Source → Source) :
    (s.modifySource i f).ports = s.ports := rfl

@[simp] theorem State.modifySource_ref (s : State) (i : SourceIx) (f : Source → Source) :
    (s.modifySource i f).ref = s.ref := rfl

@[simp] theorem State.modifySource_take (s : State) (i : SourceIx) (f : Source → Source) :
    (s.modifySource i f).take = s.take := rfl

@[simp] theorem State.modifySource_undo (s : State) (i : SourceIx) (f : Source → Source) :
    (s.modifySource i f).undo = s.undo := rfl

@[simp] theorem State.modifySource_replies (s : State) (i : SourceIx) (f : Source → Source) :
    (s.modifySource i f).replies = s.replies := rfl

@[simp] theorem State.modifySource_straps (s : State) (i : SourceIx) (f : Source → Source) :
    (s.modifySource i f).straps = s.straps := rfl

@[simp] theorem State.modifySource_unanswered (s : State) (i : SourceIx) (f : Source → Source) :
    (s.modifySource i f).unanswered = s.unanswered := rfl

@[simp] theorem State.modifySource_droppedApplied (s : State) (i : SourceIx) (f : Source → Source) :
    (s.modifySource i f).droppedApplied = s.droppedApplied := rfl

/-! ### updateLanes -/

@[simp] theorem State.updateLanes_pending (s : State) (f : LaneIx → Lane → Lane) :
    (s.updateLanes f).pending = s.pending := rfl

@[simp] theorem State.updateLanes_resetHeld (s : State) (f : LaneIx → Lane → Lane) :
    (s.updateLanes f).resetHeld = s.resetHeld := rfl

@[simp] theorem State.updateLanes_lanes (s : State) (f : LaneIx → Lane → Lane) :
    (s.updateLanes f).lanes = updateAll s.lanes f := rfl

@[simp] theorem State.updateLanes_sources (s : State) (f : LaneIx → Lane → Lane) :
    (s.updateLanes f).sources = s.sources := rfl

@[simp] theorem State.updateLanes_entries (s : State) (f : LaneIx → Lane → Lane) :
    (s.updateLanes f).entries = s.entries := rfl

@[simp] theorem State.updateLanes_dests (s : State) (f : LaneIx → Lane → Lane) :
    (s.updateLanes f).dests = s.dests := rfl

@[simp] theorem State.updateLanes_ports (s : State) (f : LaneIx → Lane → Lane) :
    (s.updateLanes f).ports = s.ports := rfl

@[simp] theorem State.updateLanes_ref (s : State) (f : LaneIx → Lane → Lane) :
    (s.updateLanes f).ref = s.ref := rfl

@[simp] theorem State.updateLanes_take (s : State) (f : LaneIx → Lane → Lane) :
    (s.updateLanes f).take = s.take := rfl

@[simp] theorem State.updateLanes_undo (s : State) (f : LaneIx → Lane → Lane) :
    (s.updateLanes f).undo = s.undo := rfl

@[simp] theorem State.updateLanes_replies (s : State) (f : LaneIx → Lane → Lane) :
    (s.updateLanes f).replies = s.replies := rfl

@[simp] theorem State.updateLanes_straps (s : State) (f : LaneIx → Lane → Lane) :
    (s.updateLanes f).straps = s.straps := rfl

@[simp] theorem State.updateLanes_unanswered (s : State) (f : LaneIx → Lane → Lane) :
    (s.updateLanes f).unanswered = s.unanswered := rfl

@[simp] theorem State.updateLanes_droppedApplied (s : State) (f : LaneIx → Lane → Lane) :
    (s.updateLanes f).droppedApplied = s.droppedApplied := rfl

/-! ### updatePorts -/

@[simp] theorem State.updatePorts_pending (s : State) (f : PortIx → Port → Port) :
    (s.updatePorts f).pending = s.pending := rfl

@[simp] theorem State.updatePorts_resetHeld (s : State) (f : PortIx → Port → Port) :
    (s.updatePorts f).resetHeld = s.resetHeld := rfl

@[simp] theorem State.updatePorts_lanes (s : State) (f : PortIx → Port → Port) :
    (s.updatePorts f).lanes = s.lanes := rfl

@[simp] theorem State.updatePorts_sources (s : State) (f : PortIx → Port → Port) :
    (s.updatePorts f).sources = s.sources := rfl

@[simp] theorem State.updatePorts_entries (s : State) (f : PortIx → Port → Port) :
    (s.updatePorts f).entries = s.entries := rfl

@[simp] theorem State.updatePorts_dests (s : State) (f : PortIx → Port → Port) :
    (s.updatePorts f).dests = s.dests := rfl

@[simp] theorem State.updatePorts_ports (s : State) (f : PortIx → Port → Port) :
    (s.updatePorts f).ports = updateAll s.ports f := rfl

@[simp] theorem State.updatePorts_ref (s : State) (f : PortIx → Port → Port) :
    (s.updatePorts f).ref = s.ref := rfl

@[simp] theorem State.updatePorts_take (s : State) (f : PortIx → Port → Port) :
    (s.updatePorts f).take = s.take := rfl

@[simp] theorem State.updatePorts_undo (s : State) (f : PortIx → Port → Port) :
    (s.updatePorts f).undo = s.undo := rfl

@[simp] theorem State.updatePorts_replies (s : State) (f : PortIx → Port → Port) :
    (s.updatePorts f).replies = s.replies := rfl

@[simp] theorem State.updatePorts_straps (s : State) (f : PortIx → Port → Port) :
    (s.updatePorts f).straps = s.straps := rfl

@[simp] theorem State.updatePorts_unanswered (s : State) (f : PortIx → Port → Port) :
    (s.updatePorts f).unanswered = s.unanswered := rfl

@[simp] theorem State.updatePorts_droppedApplied (s : State) (f : PortIx → Port → Port) :
    (s.updatePorts f).droppedApplied = s.droppedApplied := rfl

/-! ### updateSources -/

@[simp] theorem State.updateSources_pending (s : State) (f : SourceIx → Source → Source) :
    (s.updateSources f).pending = s.pending := rfl

@[simp] theorem State.updateSources_resetHeld (s : State) (f : SourceIx → Source → Source) :
    (s.updateSources f).resetHeld = s.resetHeld := rfl

@[simp] theorem State.updateSources_lanes (s : State) (f : SourceIx → Source → Source) :
    (s.updateSources f).lanes = s.lanes := rfl

@[simp] theorem State.updateSources_sources (s : State) (f : SourceIx → Source → Source) :
    (s.updateSources f).sources = updateAll s.sources f := rfl

@[simp] theorem State.updateSources_entries (s : State) (f : SourceIx → Source → Source) :
    (s.updateSources f).entries = s.entries := rfl

@[simp] theorem State.updateSources_dests (s : State) (f : SourceIx → Source → Source) :
    (s.updateSources f).dests = s.dests := rfl

@[simp] theorem State.updateSources_ports (s : State) (f : SourceIx → Source → Source) :
    (s.updateSources f).ports = s.ports := rfl

@[simp] theorem State.updateSources_ref (s : State) (f : SourceIx → Source → Source) :
    (s.updateSources f).ref = s.ref := rfl

@[simp] theorem State.updateSources_take (s : State) (f : SourceIx → Source → Source) :
    (s.updateSources f).take = s.take := rfl

@[simp] theorem State.updateSources_undo (s : State) (f : SourceIx → Source → Source) :
    (s.updateSources f).undo = s.undo := rfl

@[simp] theorem State.updateSources_replies (s : State) (f : SourceIx → Source → Source) :
    (s.updateSources f).replies = s.replies := rfl

@[simp] theorem State.updateSources_straps (s : State) (f : SourceIx → Source → Source) :
    (s.updateSources f).straps = s.straps := rfl

@[simp] theorem State.updateSources_unanswered (s : State) (f : SourceIx → Source → Source) :
    (s.updateSources f).unanswered = s.unanswered := rfl

@[simp] theorem State.updateSources_droppedApplied (s : State) (f : SourceIx → Source → Source) :
    (s.updateSources f).droppedApplied = s.droppedApplied := rfl

/-! ### updateDests -/

@[simp] theorem State.updateDests_pending (s : State) (f : DestIx → LiveRecord → LiveRecord) :
    (s.updateDests f).pending = s.pending := rfl

@[simp] theorem State.updateDests_resetHeld (s : State) (f : DestIx → LiveRecord → LiveRecord) :
    (s.updateDests f).resetHeld = s.resetHeld := rfl

@[simp] theorem State.updateDests_lanes (s : State) (f : DestIx → LiveRecord → LiveRecord) :
    (s.updateDests f).lanes = s.lanes := rfl

@[simp] theorem State.updateDests_sources (s : State) (f : DestIx → LiveRecord → LiveRecord) :
    (s.updateDests f).sources = s.sources := rfl

@[simp] theorem State.updateDests_entries (s : State) (f : DestIx → LiveRecord → LiveRecord) :
    (s.updateDests f).entries = s.entries := rfl

@[simp] theorem State.updateDests_dests (s : State) (f : DestIx → LiveRecord → LiveRecord) :
    (s.updateDests f).dests = updateAll s.dests f := rfl

@[simp] theorem State.updateDests_ports (s : State) (f : DestIx → LiveRecord → LiveRecord) :
    (s.updateDests f).ports = s.ports := rfl

@[simp] theorem State.updateDests_ref (s : State) (f : DestIx → LiveRecord → LiveRecord) :
    (s.updateDests f).ref = s.ref := rfl

@[simp] theorem State.updateDests_take (s : State) (f : DestIx → LiveRecord → LiveRecord) :
    (s.updateDests f).take = s.take := rfl

@[simp] theorem State.updateDests_undo (s : State) (f : DestIx → LiveRecord → LiveRecord) :
    (s.updateDests f).undo = s.undo := rfl

@[simp] theorem State.updateDests_replies (s : State) (f : DestIx → LiveRecord → LiveRecord) :
    (s.updateDests f).replies = s.replies := rfl

@[simp] theorem State.updateDests_straps (s : State) (f : DestIx → LiveRecord → LiveRecord) :
    (s.updateDests f).straps = s.straps := rfl

@[simp] theorem State.updateDests_unanswered (s : State) (f : DestIx → LiveRecord → LiveRecord) :
    (s.updateDests f).unanswered = s.unanswered := rfl

@[simp] theorem State.updateDests_droppedApplied (s : State) (f : DestIx → LiveRecord → LiveRecord) :
    (s.updateDests f).droppedApplied = s.droppedApplied := rfl

/-! ### modifyRef -/

@[simp] theorem State.modifyRef_pending (s : State) (f : Reference → Reference) :
    (s.modifyRef f).pending = s.pending := rfl

@[simp] theorem State.modifyRef_resetHeld (s : State) (f : Reference → Reference) :
    (s.modifyRef f).resetHeld = s.resetHeld := rfl

@[simp] theorem State.modifyRef_lanes (s : State) (f : Reference → Reference) :
    (s.modifyRef f).lanes = s.lanes := rfl

@[simp] theorem State.modifyRef_sources (s : State) (f : Reference → Reference) :
    (s.modifyRef f).sources = s.sources := rfl

@[simp] theorem State.modifyRef_entries (s : State) (f : Reference → Reference) :
    (s.modifyRef f).entries = s.entries := rfl

@[simp] theorem State.modifyRef_dests (s : State) (f : Reference → Reference) :
    (s.modifyRef f).dests = s.dests := rfl

@[simp] theorem State.modifyRef_ports (s : State) (f : Reference → Reference) :
    (s.modifyRef f).ports = s.ports := rfl

@[simp] theorem State.modifyRef_ref (s : State) (f : Reference → Reference) :
    (s.modifyRef f).ref = f s.ref := rfl

@[simp] theorem State.modifyRef_take (s : State) (f : Reference → Reference) :
    (s.modifyRef f).take = s.take := rfl

@[simp] theorem State.modifyRef_undo (s : State) (f : Reference → Reference) :
    (s.modifyRef f).undo = s.undo := rfl

@[simp] theorem State.modifyRef_replies (s : State) (f : Reference → Reference) :
    (s.modifyRef f).replies = s.replies := rfl

@[simp] theorem State.modifyRef_straps (s : State) (f : Reference → Reference) :
    (s.modifyRef f).straps = s.straps := rfl

@[simp] theorem State.modifyRef_unanswered (s : State) (f : Reference → Reference) :
    (s.modifyRef f).unanswered = s.unanswered := rfl

@[simp] theorem State.modifyRef_droppedApplied (s : State) (f : Reference → Reference) :
    (s.modifyRef f).droppedApplied = s.droppedApplied := rfl

/-! ### queueReply -/

@[simp] theorem queueReply_pending (i : Iface) (status : Status) (tag : Word) (kind : Byte) (data : List Word)
    (s : State) : (queueReply i status tag kind data s).pending = s.pending := rfl

@[simp] theorem queueReply_resetHeld (i : Iface) (status : Status) (tag : Word) (kind : Byte) (data : List Word)
    (s : State) : (queueReply i status tag kind data s).resetHeld = s.resetHeld := rfl

@[simp] theorem queueReply_lanes (i : Iface) (status : Status) (tag : Word) (kind : Byte) (data : List Word)
    (s : State) : (queueReply i status tag kind data s).lanes = s.lanes := rfl

@[simp] theorem queueReply_sources (i : Iface) (status : Status) (tag : Word) (kind : Byte) (data : List Word)
    (s : State) : (queueReply i status tag kind data s).sources = s.sources := rfl

@[simp] theorem queueReply_entries (i : Iface) (status : Status) (tag : Word) (kind : Byte) (data : List Word)
    (s : State) : (queueReply i status tag kind data s).entries = s.entries := rfl

@[simp] theorem queueReply_dests (i : Iface) (status : Status) (tag : Word) (kind : Byte) (data : List Word)
    (s : State) : (queueReply i status tag kind data s).dests = s.dests := rfl

@[simp] theorem queueReply_ports (i : Iface) (status : Status) (tag : Word) (kind : Byte) (data : List Word)
    (s : State) : (queueReply i status tag kind data s).ports = s.ports := rfl

@[simp] theorem queueReply_ref (i : Iface) (status : Status) (tag : Word) (kind : Byte) (data : List Word)
    (s : State) : (queueReply i status tag kind data s).ref = s.ref := rfl

@[simp] theorem queueReply_take (i : Iface) (status : Status) (tag : Word) (kind : Byte) (data : List Word)
    (s : State) : (queueReply i status tag kind data s).take = s.take := rfl

@[simp] theorem queueReply_undo (i : Iface) (status : Status) (tag : Word) (kind : Byte) (data : List Word)
    (s : State) : (queueReply i status tag kind data s).undo = s.undo := rfl

@[simp] theorem queueReply_replies (i : Iface) (status : Status) (tag : Word) (kind : Byte) (data : List Word)
    (s : State) : (queueReply i status tag kind data s).replies = s.replies ++ [⟨i, replyPayload s.straps.unitAddress status tag kind data⟩] := rfl

@[simp] theorem queueReply_straps (i : Iface) (status : Status) (tag : Word) (kind : Byte) (data : List Word)
    (s : State) : (queueReply i status tag kind data s).straps = s.straps := rfl

@[simp] theorem queueReply_unanswered (i : Iface) (status : Status) (tag : Word) (kind : Byte) (data : List Word)
    (s : State) : (queueReply i status tag kind data s).unanswered = s.unanswered := rfl

@[simp] theorem queueReply_droppedApplied (i : Iface) (status : Status) (tag : Word) (kind : Byte) (data : List Word)
    (s : State) : (queueReply i status tag kind data s).droppedApplied = s.droppedApplied := rfl

end Sys2Proof.Machine
end

