-- ==== Sys2Proof/Laws/Tables.lean ====
section
/-! SUPPORT. Tables, indices, counters and the sample store: what each operation of Machine/Ops.lean can do. -/

namespace Sys2Proof.Machine

/-! ### Tables -/

theorem updateFrom_getElem {α : Type} (n : Nat) (f : Fin n → α → α) (l : List α) (i : Nat) (h : i + l.length ≤ n)
    (k : Nat) (hk : k < l.length) :
    (updateFrom n f l i h)[k]'(by rw [updateFrom_length]; exact hk) = f ⟨i + k, by omega⟩ l[k] := by
  induction l generalizing i k with
  | nil => simp at hk
  | cons a l ih =>
    cases k with
    | zero => simp [updateFrom]
    | succ k =>
      simp only [updateFrom, List.getElem_cons_succ]
      rw [ih (i + 1) _ k (by simpa using hk)]
      congr 2
      omega

/-- Every place of `updateAll` is its function's value at its own index. -/
@[simp] theorem updateAll_getElem {α : Type} {n : Nat} (v : Vector α n) (f : Fin n → α → α) (k : Nat) (hk : k < n) :
    (updateAll v f)[k] = f ⟨k, hk⟩ v[k] := by
  have h := updateFrom_getElem n f v.toList 0 (by simp) k (by simpa using hk)
  simpa [updateAll] using h

/-- The same, at an index of `Fin`. -/
@[simp] theorem updateAll_getElem_fin {α : Type} {n : Nat} (v : Vector α n) (f : Fin n → α → α) (k : Fin n) :
    (updateAll v f)[k] = f k v[k] :=
  updateAll_getElem v f k.val k.isLt

/-- `modifyAt` changes its own place and no other. -/
theorem modifyAt_getElem {α : Type} {n : Nat} (v : Vector α n) (i : Fin n) (f : α → α) (k : Fin n) :
    (modifyAt v i f)[k] = if i = k then f v[i] else v[k] := by
  simp only [modifyAt, Fin.getElem_fin, Vector.getElem_set]
  by_cases h : i = k
  · subst h; simp
  · rw [if_neg h, if_neg (fun e => h (Fin.ext e))]

@[simp] theorem modifyAt_getElem_self {α : Type} {n : Nat} (v : Vector α n) (i : Fin n) (f : α → α) :
    (modifyAt v i f)[i] = f v[i] := by
  rw [modifyAt_getElem, if_pos rfl]

theorem modifyAt_getElem_ne {α : Type} {n : Nat} (v : Vector α n) {i k : Fin n} (h : i ≠ k) (f : α → α) :
    (modifyAt v i f)[k] = v[k] := by
  rw [modifyAt_getElem, if_neg h]

/-- Every place of `four` is its function's value. -/
@[simp] theorem four_getElem {α : Type} (f : Fin 4 → α) (k : Fin 4) : (four f)[k] = f k := by
  fin_cases k <;> rfl

/-! ### Counters -/

/-- A raised counter is the exact sum, or 65535 where the sum is larger. -/
theorem raise_toNat (c : Counter) (n : Nat) : (raise c n).toNat = min 65535 (c.toNat + n) := by
  simp only [raise, BitVec.toNat_ofNat]
  omega

@[simp] theorem raise_zero (c : Counter) : raise c 0 = c := by
  apply BitVec.eq_of_toNat_eq
  rw [raise_toNat]
  have := c.isLt
  omega

/-! ### Indices (00 Indices) -/

@[simp] theorem trackPlace_laneTrack (n : LaneIx) (g : GroupIx) (t : Fin 4) :
    trackPlace (laneTrack n g t) = .lane n := by
  have hlt : (laneTrack n g t).val < 128 := by simp only [laneTrack]; omega
  simp only [trackPlace, dif_pos hlt, Place.lane.injEq]
  apply Fin.ext
  simp only [laneTrack]
  omega

@[simp] theorem trackGroup_laneTrack (n : LaneIx) (g : GroupIx) (t : Fin 4) : trackGroup (laneTrack n g t) = g := by
  apply Fin.ext
  simp only [trackGroup, laneTrack]
  omega

@[simp] theorem trackPlace_portTrack (p : PortIx) (c : ChanIx) (t : Fin 8) :
    trackPlace (portTrack p c t) = .port p := by
  have hlt : ¬ (portTrack p c t).val < 128 := by simp only [portTrack]; omega
  simp only [trackPlace, dif_neg hlt, Place.port.injEq]
  apply Fin.ext
  simp only [portTrack]
  omega

@[simp] theorem trackChannel_portTrack (p : PortIx) (c : ChanIx) (t : Fin 8) : trackChannel (portTrack p c t) = c := by
  apply Fin.ext
  simp only [trackChannel, portTrack]
  omega

@[simp] theorem ifacePlace_laneScope (n : LaneIx) : ifacePlace (laneScope n) = .lane n := by
  simp [ifacePlace, laneScope]

@[simp] theorem ifacePlace_portScope (p : PortIx) : ifacePlace (portScope p) = .port p := by
  simp [ifacePlace, portScope]

/-! ### The sample store (R50 to R52) -/

theorem Memory.read_of_lt (b : Memory) (p : Nat) (h : ∀ c ∈ b, p < c.1) : Memory.read b p = 0 := by
  induction b with
  | nil => rfl
  | cons c b ih =>
    obtain ⟨q, v⟩ := c
    have hq : p < q := h (q, v) (by simp)
    simp only [Memory.read, if_neg (by omega : ¬ q = p)]
    exact ih fun c hc => h c (by simp [hc])

/-- A place put in front of places above it reads as itself. -/
theorem Memory.read_put (b : Memory) (p q : Nat) (v : Sample) (h : ∀ c ∈ b, p < c.1) :
    Memory.read (if v = 0 then b else (p, v) :: b) q = if q = p then v else Memory.read b q := by
  by_cases hq : q = p
  · subst hq
    rw [if_pos rfl]
    split
    · rename_i hv
      rw [hv, Memory.read_of_lt b q h]
    · simp only [Memory.read, if_true]
  · rw [if_neg hq]
    split
    · rfl
    · simp only [Memory.read, if_neg (Ne.symm hq)]

/-- A read after a write: the value written at that place, every other place as before. -/
theorem Memory.read_write (b : Memory) (hb : (b.map Prod.fst).Pairwise (· < ·)) (p q : Nat) (v : Sample) :
    Memory.read (Memory.write b p v) q = if q = p then v else Memory.read b q := by
  induction b with
  | nil => exact Memory.read_put [] p q v (by simp)
  | cons c b ih =>
    obtain ⟨r, w⟩ := c
    simp only [List.map_cons, List.pairwise_cons] at hb
    have above : ∀ c ∈ b, r < c.1 := fun c hc => hb.1 c.1 (List.mem_map_of_mem hc)
    rw [Memory.write]
    split
    · apply Memory.read_put
      intro c hc
      rcases List.mem_cons.1 hc with h | h
      · subst h; assumption
      · have := above c h; omega
    · split
      · rename_i h
        subst h
        rw [Memory.read_put b p q v above]
        simp only [Memory.read]
        by_cases hq : q = p
        · rw [if_pos hq, if_pos hq]
        · rw [if_neg hq, if_neg hq, if_neg (Ne.symm hq)]
      · simp only [Memory.read]
        by_cases hq : r = q
        · subst hq
          rw [if_pos rfl, if_pos rfl, if_neg (by omega)]
        · rw [if_neg hq, if_neg hq, ih hb.2]

theorem Memory.mem_put (b : Memory) (p : Nat) (v : Sample) (c : Nat × Sample)
    (hc : c ∈ if v = 0 then b else (p, v) :: b) : c ∈ b ∨ (c = (p, v) ∧ v ≠ 0) := by
  split at hc
  · exact .inl hc
  · rcases List.mem_cons.1 hc with h | h
    · exact .inr ⟨h, by assumption⟩
    · exact .inl h

theorem Memory.mem_write (b : Memory) (p : Nat) (v : Sample) (c : Nat × Sample) (hc : c ∈ Memory.write b p v) :
    c ∈ b ∨ (c = (p, v) ∧ v ≠ 0) := by
  induction b with
  | nil => exact Memory.mem_put [] p v c hc
  | cons a b ih =>
    obtain ⟨q, w⟩ := a
    rw [Memory.write] at hc
    split at hc
    · exact Memory.mem_put _ p v c hc
    · split at hc
      · rcases Memory.mem_put b p v c hc with h | h
        · exact .inl (by simp [h])
        · exact .inr h
      · rcases List.mem_cons.1 hc with h | h
        · exact .inl (by simp [h])
        · rcases ih h with h | h
          · exact .inl (by simp [h])
          · exact .inr h

theorem Memory.write_sorted (b : Memory) (p : Nat) (v : Sample) (hb : (b.map Prod.fst).Pairwise (· < ·)) :
    ((Memory.write b p v).map Prod.fst).Pairwise (· < ·) := by
  induction b with
  | nil =>
    simp only [Memory.write]
    split <;> simp
  | cons a b ih =>
    obtain ⟨q, w⟩ := a
    have hb' := hb
    simp only [List.map_cons, List.pairwise_cons] at hb
    simp only [Memory.write]
    split
    · split
      · exact hb'
      · simp only [List.map_cons, List.pairwise_cons, List.mem_cons]
        refine ⟨?_, hb⟩
        rintro a (h | h)
        · omega
        · have := hb.1 a h; omega
    · split
      · rename_i h
        subst h
        split
        · exact hb.2
        · simpa using hb
      · simp only [List.map_cons, List.pairwise_cons]
        refine ⟨?_, ih hb.2⟩
        intro a ha
        obtain ⟨c, hc, rfl⟩ := List.mem_map.1 ha
        rcases Memory.mem_write b p v c hc with h | h
        · exact hb.1 c.1 (List.mem_map_of_mem h)
        · rw [h.1]; omega

/-- A write keeps the canonical form. -/
theorem Memory.write_wf (b : Memory) (p : Nat) (v : Sample) (hp : p < 8192) (hb : Memory.wf b = true) :
    Memory.wf (Memory.write b p v) = true := by
  simp only [Memory.wf, Bool.and_eq_true, decide_eq_true_eq, List.all_eq_true] at hb ⊢
  refine ⟨Memory.write_sorted b p v hb.1, fun c hc => ?_⟩
  rcases Memory.mem_write b p v c hc with h | ⟨rfl, h⟩
  · exact hb.2 c h
  · exact ⟨hp, h⟩

/-- The buffers of the part right after reset are in canonical form. -/
theorem reset_buffers_wf (i : SourceIx) : Memory.wf (State.reset.sources[i]).buffer = true := by
  have h : State.reset.sources[i] = Source.powerOn := by
    simp [State.reset, State.powerOn]
  rw [h]
  rfl

end Sys2Proof.Machine
end

