-- ==== Sys2Proof/Laws/Operations.lean ====
section
/-! SUPPORT. What each shared operation over requests, sources, streams and scopes can do. -/

namespace Sys2Proof.Machine

/-! ### Power-on reset -/

theorem powered_on {s : State} (h : s.resetHeld = false) (f : State → State) : powered s f = .next (f s) := by
  simp [powered, h]

theorem powered_held {s : State} (h : s.resetHeld = true) (f : State → State) : powered s f = .next s := by
  simp [powered, h]

/-! ### Taking a request (R25, R163) -/

theorem withRoom_free {s : State} (h : s.replies.length < 8) (act : State → State) : withRoom s act = act s := by
  simp [withRoom, h]

theorem withRoom_full {s : State} (h : ¬ s.replies.length < 8) (act : State → State) :
    withRoom s act = { s with unanswered := raise s.unanswered 1 } := by
  simp [withRoom, h]

theorem readIndex_of_lt {n : Nat} {w : Word} (h : w.toNat < n) : readIndex n w = some ⟨w.toNat, h⟩ := by
  simp [readIndex, h]

theorem readIndex_of_not_lt {n : Nat} {w : Word} (h : ¬ w.toNat < n) : readIndex n w = none := by
  simp [readIndex, h]

theorem withIndex_in {n : Nat} {s : State} (h : s.replies.length < 8) {w : Word} (hw : w.toNat < n) (i : Iface)
    (tag : Word) (kind : Byte) (act : Fin n → State → State) :
    withIndex n i tag kind [w] s act = act ⟨w.toNat, hw⟩ s := by
  simp [withIndex, withRoom, h, readIndex, hw]

theorem withIndex_out {n : Nat} {s : State} (h : s.replies.length < 8) {w : Word} (hw : ¬ w.toNat < n) (i : Iface)
    (tag : Word) (kind : Byte) (act : Fin n → State → State) :
    withIndex n i tag kind [w] s act = refuse i tag kind s := by
  simp [withIndex, withRoom, h, readIndex, hw]

theorem withoutParams_nil {s : State} (h : s.replies.length < 8) (i : Iface) (tag : Word) (kind : Byte)
    (act : State → State) : withoutParams i tag kind [] s act = act s := by
  simp [withoutParams, withRoom, h]

/-- The tests of R150 pass exactly for the OPEN take of the interface. -/
theorem ownTake_ok_iff (i : Iface) (s : State) (t : Take) :
    ownTake i s = .ok t ↔ s.take = some t ∧ t.owner = i ∧ t.state = .opened := by
  unfold ownTake
  cases hs : s.take with
  | none => simp
  | some u =>
    rcases hu : u.state with _ | _ <;> by_cases ho : u.owner = i <;> simp [ho, hu]
    all_goals
      intro h
      subst h
      simp_all

/-! ### Sources (R52 to R60) -/

@[simp] theorem completeBlock_writeCount (x : Source) (loud : Bool) :
    (completeBlock x loud).writeCount = x.writeCount := rfl

@[simp] theorem countBlock_writeCount (x : Source) (v : Sample) : (countBlock x v).writeCount = x.writeCount := by
  unfold countBlock; split <;> [split <;> rfl; rfl]

@[simp] theorem countBlock_validSpan (x : Source) (v : Sample) : (countBlock x v).validSpan = x.validSpan := by
  unfold countBlock; split <;> [split <;> rfl; rfl]

@[simp] theorem countBlock_lastSample (x : Source) (v : Sample) : (countBlock x v).lastSample = x.lastSample := by
  unfold countBlock; split <;> [split <;> rfl; rfl]

@[simp] theorem countBlock_buffer (x : Source) (v : Sample) : (countBlock x v).buffer = x.buffer := by
  unfold countBlock; split <;> [split <;> rfl; rfl]

@[simp] theorem countBlock_peak (x : Source) (v : Sample) : (countBlock x v).peak = x.peak := by
  unfold countBlock; split <;> [split <;> rfl; rfl]

@[simp] theorem countBlock_present (x : Source) (v : Sample) : (countBlock x v).present = x.present := by
  unfold countBlock; split <;> [split <;> rfl; rfl]

@[simp] theorem appendSample_writeCount (x : Source) (v : Sample) :
    (appendSample x v).writeCount = x.writeCount + 1 := by
  simp [appendSample, storeSample]

@[simp] theorem appendSample_present (x : Source) (v : Sample) : (appendSample x v).present = x.present := by
  simp [appendSample, storeSample]

theorem appendSample_buffer (x : Source) (v : Sample) :
    (appendSample x v).buffer = Memory.write x.buffer (x.writeCount.toNat % 8192) v := by
  simp [appendSample, storeSample]

theorem appendSamples_present (x : Source) (vs : List Sample) : (appendSamples x vs).present = x.present := by
  induction vs generalizing x with
  | nil => rfl
  | cons v vs ih =>
    have h := ih (appendSample x v)
    simpa [appendSamples] using h

theorem appendSamples_writeCount (x : Source) (vs : List Sample) :
    (appendSamples x vs).writeCount = x.writeCount + BitVec.ofNat 24 vs.length := by
  induction vs generalizing x with
  | nil => simp [appendSamples]
  | cons v vs ih =>
    have h := ih (appendSample x v)
    simp only [appendSamples, List.foldl_cons, appendSample_writeCount] at h ⊢
    rw [h, List.length_cons]
    apply BitVec.eq_of_toNat_eq
    have h1 : (1 : Count).toNat = 1 := rfl
    simp only [BitVec.toNat_add, BitVec.toNat_ofNat, h1]
    omega

@[simp] theorem becomePresent_present (x : Source) : (becomePresent x).present = true := by
  unfold becomePresent; split <;> simp_all

@[simp] theorem becomeAbsent_present (x : Source) : (becomeAbsent x).present = false := by
  unfold becomeAbsent; split <;> simp_all

@[simp] theorem becomeAbsent_validSpan (x : Source) : (becomeAbsent x).validSpan = 0 := by
  unfold becomeAbsent; split <;> rfl

/-! ### Streams and selection (R71, R78) -/

/-- A picked candidate stands in the list at its index and passes the test. -/
theorem pick_some {p : Nat → SourceIx → Bool} {i : Nat} {cs : List SourceIx} {a : Nat} {c : SourceIx}
    (h : pick p i cs = some (a, c)) : i ≤ a ∧ cs[a - i]? = some c ∧ p a c = true := by
  induction cs generalizing i with
  | nil => simp [pick] at h
  | cons d cs ih =>
    simp only [pick] at h
    split at h
    · simp only [Option.some.injEq, Prod.mk.injEq] at h
      obtain ⟨rfl, rfl⟩ := h
      exact ⟨le_refl _, by simp, by assumption⟩
    · obtain ⟨h1, h2, h3⟩ := ih h
      refine ⟨by omega, ?_, h3⟩
      have : a - i = (a - (i + 1)) + 1 := by omega
      rw [this]
      simpa using h2

@[simp] theorem crossfade_current (r : LiveRecord) (x : Stream) : (crossfade r x).current = some x := rfl

@[simp] theorem crossfade_fade (r : LiveRecord) (x : Stream) : (crossfade r x).fade = 0 := rfl

@[simp] theorem crossfade_old (r : LiveRecord) (x : Stream) :
    (crossfade r x).old = some (r.current.getD (.fill .silence)) := rfl

/-! ### Output sides (R83, R84) -/

@[simp] theorem setGroups_running (n : LaneIx) (runs : GroupIx → Bool) (s : State) (g : GroupIx) :
    ((setGroups n runs s).lanes[n]).running[g] = runs g := by
  simp only [setGroups, State.modifyLane_lanes, modifyAt_getElem_self, four_getElem]

@[simp] theorem setGroups_dests (n : LaneIx) (runs : GroupIx → Bool) (s : State) (d : DestIx) :
    (setGroups n runs s).dests[d] =
      if trackPlace d = .lane n ∧ runs (trackGroup d) = false then stopRecord s.dests[d] else s.dests[d] := by
  simp only [setGroups, State.modifyLane_dests, stopDests, State.updateDests_dests, updateAll_getElem_fin]
  by_cases h : trackPlace d = .lane n <;> by_cases hr : runs (trackGroup d) = true <;> simp [h, hr]

@[simp] theorem setChannels_running (p : PortIx) (runs : ChanIx → Bool) (s : State) (c : ChanIx) :
    ((setChannels p runs s).ports[p]).running[c] = runs c := by
  simp only [setChannels, State.modifyPort_ports, modifyAt_getElem_self, four_getElem]

/-! ### The clock of a port (R5, R129, R136) -/

@[simp] theorem advancePort_clock (x : Port) : (advancePort x).clock = x.clock := rfl

@[simp] theorem advancePort_running (x : Port) : (advancePort x).running = x.running := rfl

/-- What a run of samples can do: all fall, or one takes the position to 0, raises the port frame, and holds those behind
it; the position and the held samples together move by the run. -/
theorem advanceBy_cases (k : Nat) (x : Port) (h : x.position < 1024) :
    (advanceBy k x).position < 1024
      ∧ ((advanceBy k x).heldSamples = x.heldSamples ∧ (advanceBy k x).position = (x.position + k) % 1024
        ∨ (advanceBy k x).position = 0 ∧ (advanceBy k x).frameDue = true ∧ (advanceBy k x).heldSamples < k
          ∧ (advanceBy k x).heldSamples % 1024 = (x.position + k) % 1024) := by
  induction k generalizing x with
  | zero => simp [advanceBy, Nat.mod_eq_of_lt h, h]
  | succ k ih =>
    have hp : (advancePort x).position = (x.position + 1) % 1024 := rfl
    by_cases h0 : (advancePort x).position = 0
    · have hf : (advancePort x).frameDue = true := by
        rw [hp] at h0
        simp [advancePort, h0]
      rw [hp] at h0
      simp only [advanceBy, hp, h0, if_true, hf]
      exact ⟨by omega, .inr ⟨trivial, trivial, by omega, by omega⟩⟩
    · have hk := ih (advancePort x) (by rw [hp]; omega)
      have hh : (advancePort x).heldSamples = x.heldSamples := rfl
      simp only [advanceBy, h0, if_false]
      rw [hh, hp] at hk
      obtain ⟨h1, ⟨h2, h3⟩ | ⟨h2, h3, h4, h5⟩⟩ := hk
      · exact ⟨h1, .inl ⟨h2, by omega⟩⟩
      · exact ⟨h1, .inr ⟨h2, h3, by omega, by omega⟩⟩

/-- A run of samples keeps the clock. -/
@[simp] theorem advanceBy_clock (k : Nat) (x : Port) : (advanceBy k x).clock = x.clock := by
  induction k generalizing x with
  | zero => rfl
  | succ k ih =>
    simp only [advanceBy]
    split
    · rfl
    · rw [ih, advancePort_clock]

@[simp] theorem clockSamples_clock (k : Nat) (x : Port) : (clockSamples k x).clock = x.clock := by
  simp [clockSamples]

/-! ### Absence timers (R61, R127) -/

/-- A timeout is among a port's due steps exactly when its channel's expiry has fallen due. -/
theorem timeout_mem_portDue (p : PortIx) (c : ChanIx) (x : Port) :
    Instr.channelAbsenceTimeout p c ∈ portDue p x ↔ x.absenceDue[c] = true := by
  simp only [portDue, List.mem_append, List.mem_map, List.mem_filter, List.mem_finRange, true_and]
  constructor
  · rintro ((((⟨k, hk, h⟩ | h) | h) | h) | h)
    · cases h; exact hk
    all_goals split at h <;> simp at h
  · exact fun h => .inl (.inl (.inl (.inl ⟨c, h, rfl⟩)))

/-- A word for the staging is among a port's due steps exactly while receive is enabled and the in FIFO holds one (R123). -/
theorem staging_mem_portDue (p : PortIx) (x : Port) :
    Instr.stagingWordTaken p ∈ portDue p x ↔ x.receiveEnable = true ∧ x.inFifo ≠ [] := by
  simp only [portDue, List.mem_append, List.mem_map, List.mem_filter, List.mem_finRange, true_and]
  constructor
  · rintro ((((⟨k, hk, h⟩ | h) | h) | h) | h)
    · cases h
    all_goals split at h
    · assumption
    all_goals simp at h
  · exact fun h => .inl (.inl (.inl (.inr (by simp [h]))))

/-- A good bundle leaves every expiry that has fallen due as it is (R127). -/
@[simp] theorem goodBundle_absenceDue (p q : PortIx) (c : ChanIx) (count : Byte) (n : Nat) (body : List Word)
    (s : State) : ((goodBundle p c count n body s).ports[q]).absenceDue = (s.ports[q]).absenceDue := by
  simp only [goodBundle, updateChannel, State.modifyPort_ports, State.updateSources_ports]
  by_cases h : p = q
  · subst h; simp only [modifyAt_getElem_self]
  · simp only [modifyAt_getElem_ne _ h]

/-- A timeout leaves its channel's expiry no longer due (R127). -/
@[simp] theorem absenceTimeout_absenceDue (p : PortIx) (c : ChanIx) (s : State) :
    ((absenceTimeout p c s).ports[p]).absenceDue[c] = false := by
  simp only [absenceTimeout, State.modifyPort_ports, modifyAt_getElem_self]

/-- The sound bundles of a period change a port's out FIFO and counters alone (R133, R134). -/
theorem writeChannels_frame (s : State) (p : PortIx) (x : Port) :
    writeChannels s p x =
      { x with outFifo := (writeChannels s p x).outFifo, counters := (writeChannels s p x).counters } := by
  unfold writeChannels
  induction List.finRange 4 generalizing x with
  | nil => rfl
  | cons c l ih =>
    simp only [List.foldl_cons]
    rw [ih (writeChannel s p x c)]
    simp only [writeChannel]
    split <;> rfl

/-- A faded sample of a destination that is not IDLE is its last output sample (R82). -/
theorem lastFaded_of_ne_idle {r : LiveRecord} (h : r.state ≠ .idle) (out : Sample) : lastFaded r out = out := by
  simp [lastFaded, h]

/-- The read that ends the fade to silence of an IDLE destination leaves last output sample 0 (R98). -/
theorem lastFaded_idle_end {r : LiveRecord} (h : r.state = .idle) (hf : r.fade = 31) (out : Sample) :
    lastFaded r out = 0 := by
  simp [lastFaded, h, hf]

/-- A disabled entry sets a record to IDLE (R88); an enabled one moves it by its state (R86, R87). -/
theorem enterEntry_disabled {e : RouteEntry} (h : e.enabled = false) (sources : Vector Source 192) (oldDelay : Nat)
    (running : Bool) (r : LiveRecord) : enterEntry sources oldDelay e running r = enterDisabled r := by
  simp [enterEntry, h]

theorem enterEntry_filling {e : RouteEntry} {r : LiveRecord} (h : e.enabled = true) (hr : r.state = .filling)
    (sources : Vector Source 192) (oldDelay : Nat) (running : Bool) :
    enterEntry sources oldDelay e running r = enterFilling sources e r := by
  simp [enterEntry, h, hr]

theorem enterEntry_active {e : RouteEntry} {r : LiveRecord} (h : e.enabled = true) (hr : r.state = .active)
    (sources : Vector Source 192) (oldDelay : Nat) (running : Bool) :
    enterEntry sources oldDelay e running r = enterActive sources oldDelay e r := by
  simp [enterEntry, h, hr]

theorem enterEntry_still {e : RouteEntry} {r : LiveRecord} (h : e.enabled = true)
    (hr : r.state = .idle ∨ r.state = .parked) (sources : Vector Source 192) (oldDelay : Nat) (running : Bool) :
    enterEntry sources oldDelay e running r = if running then start sources e r else park r := by
  rcases hr with hr | hr <;> simp [enterEntry, h, hr]

/-- A boundary without a take pending on its scope: groups or channels settle, then the check. -/
theorem boundary_none {s : State} {scope : Iface} (h : pendingOn s scope = none) (between : State → State) :
    boundary scope between s = checkScope scope (fun _ => false) (between (settleScope scope s)) := by
  simp [boundary, h]

/-- A boundary with a take pending on its scope: the application, then the check of the other destinations. -/
theorem boundary_some {s : State} {scope : Iface} {t : Take} (h : pendingOn s scope = some t)
    (between : State → State) :
    boundary scope between s =
      checkScope scope (fun d => (latchedEntry t.latches d).isSome) (between (applyTake none t s)) := by
  simp [boundary, h]

/-! ### One step -/

theorem step_cons (c : Instr) (rest : List Instr) (s : State) (h : s.pending = c :: rest) :
    step s = exec c { s with pending := rest } := by
  simp [step, h]

end Sys2Proof.Machine
end

