-- ==== Sys2Proof/Tests/Slice0.lean ====
section
/-! SUPPORT. Tests from the manual's tables and worked examples, and a witness for the hypotheses of each statement. -/

namespace Sys2Proof.Tests

set_option Elab.async false

open Sys2Proof.Machine

/-! ### States of a few fields -/

/-- A lane LOCKED in F25 with an open frame. -/
def lockedLane : Lane :=
  { Lane.powerOn with linkSignal := true, inputState := .locked, format := some .f25, frameOpen := true }

/-- The reset state with lane L0 given. -/
def withLane (l : Lane) : State :=
  State.reset.putLane 0 l

/-- The reset state with port P0 given. -/
def withPort (x : Port) : State :=
  State.reset.putPort 0 x

/-- An OPEN take of interface 0 on the scope of L0. -/
def openedTake : Take :=
  { state := .opened, scope := 0, owner := 0, latches := [], plan := none, expiry := 0, origin := .commit, tag := 0 }

/-- An entry that could be committed, with one candidate. -/
def liveEntry : RouteEntry :=
  { RouteEntry.powerOn with enabled := true, candidates := [40] }

/-- A PENDING take on the scope of L0 that latches an entry and a plan. -/
def pendingTake : Take :=
  { openedTake with
    state := .pending, latches := [(3, liveEntry)]
    plan := some (.lane { modes := Vector.replicate 4 .embedFull, budget := some 48 }) }

/-- A reply of three words for an interface. -/
def shortReply (i : Iface) : Reply := ⟨i, [5, 9, 0x08]⟩

/-- A lane with a line to build. -/
def buildingLane (j : Nat) (passList : List PassEntry) : Lane :=
  { lockedLane with awaiting := some ⟨j, List.replicate 256 0, passList⟩ }

/-- The outcome's state, if it is one. -/
def after (o : Host.Outcome State Fault Refusal) : Option State :=
  match o with
  | .next t => some t
  | _ => none

/-! ### Well-formedness: one ill-formed term for each check -/

theorem test_short_blanking_refused :
    (Instr.inputCarriageLine 0 (List.replicate 255 0)).wellFormed = false
      ∧ (Instr.inputCarriageLine 0 (List.replicate 256 0)).wellFormed = true := by decide +kernel

/-- Every request row with one parameter word more than a payload can hold. -/
def longRequests : List Instr :=
  let params := List.replicate 254 (0 : Word)
  [.readRoute 0 0 params, .readRouteState 0 0 params, .readSource 0 0 params, .readLane 0 0 params,
    .readPort 0 0 params, .readReference 0 0 params, .readTake 0 0 params, .readDevice 0 0 params,
    .setSource 0 0 params, .setReference 0 0 params, .setPort 0 0 params, .clearCounters 0 0 params,
    .resetUnit 0 0 params, .openTake 0 0 params, .setRoute 0 0 params, .setPlan 0 0 params, .commitTake 0 0 params,
    .abandonTake 0 0 params, .undoTake 0 0 params, .unknownRequestKind 0 0x30 0 params]

theorem test_long_requests_refused : longRequests.all (fun c => !c.wellFormed) = true := by decide +kernel

theorem test_known_kinds_not_unknown :
    knownRequestKinds.all (fun k => !(Instr.unknownRequestKind 0 k 0 []).wellFormed) = true := by decide +kernel

theorem test_no_word_spells_a_command : decodeTableWord 16 0x1234 = none := by decide +kernel

/-! ### 02 Carriage Packet Formats -/

/-- The worked frame mark of count 1234: check word 0xE788. -/
theorem test_mark_packet_words : markPacket 1234 = [0xC3A5, 0x5001, 0x04D2, 0xE788] := by decide +kernel

/-- The worked full grade packet: F59 at phase 3, m = 1, check word 0xFB1F. -/
theorem test_full_packet_words :
    groupPacket 0 .full 3 [#v[⟨1000000, true⟩, ⟨-1000000, true⟩, ⟨0, true⟩, ⟨0, false⟩]] =
      [0xC3A5, 0x4109, 0x0031, 0x0F42, 0x4001, 0xF0BD, 0xC001, 0x0000, 0x0001, 0x0000, 0x0000, 0xFB1F] := by
  decide +kernel

/-- A full grade packet for group 2 with m = 2 has kind and length 0x4311 and 20 words; compact, 0x4B09 and 12. -/
theorem test_packet_sizes :
    let two : List Instant := List.replicate 2 (Vector.replicate 4 ⟨0, false⟩)
    ((groupPacket 2 .full 0 two).getD 1 0 = 0x4311 ∧ (groupPacket 2 .full 0 two).length = 20)
      ∧ (groupPacket 2 .compact 0 two).getD 1 0 = 0x4B09 ∧ (groupPacket 2 .compact 0 two).length = 12 := by
  decide +kernel

/-- A lead word whose packet would end past the line stops the scan; the packet before it is found. -/
theorem test_scan_stops_past_line_end :
    scanLine ([0, 7] ++ markPacket 1234 ++ [0xC3A5, 0x6028, 1, 2]) = ([markPacket 1234], true) := by decide +kernel

/-- Marker codes 0 and 4 to 15 read as ERROR END, and unused bits are ignored (R28). -/
theorem test_markers_read :
    readMarker 0xFFF1 = .start 7 ∧ readMarker 0xFFF2 = .finish ∧ readMarker 0x0000 = .errorEnd
      ∧ readMarker 0x0004 = .errorEnd ∧ readMarker 0x000F = .errorEnd ∧ readMarker 0x0003 = .errorEnd := by
  decide +kernel

/-! ### 06 Sample Arithmetic -/

/-- Gains of the worked compact group: 1000000 and −300 at gain 24576. -/
theorem test_gain_worked :
    applyGain 24576 1000000 = 1500000 ∧ applyGain 24576 (-300) = -450 ∧ applyGain 65535 8388607 = 8388607 := by
  decide +kernel

/-- Fades of the worked compact group: 1000 to −1000 at k = 30 and k = 31. -/
theorem test_blend_worked : blend 30 1000 (-1000) = -875 ∧ blend 31 1000 (-1000) = -937 := by decide +kernel

/-- The sign change of R93's four cases. -/
theorem test_polarity_cases :
    polarity true 0 = 0 ∧ polarity true 0x7FFFFF = 0x800001 ∧ polarity true 0xFFFFFF = 1
      ∧ polarity true 0x800000 = 0x7FFFFF := by decide +kernel

/-- Segment ends of R100 and R102. -/
theorem test_compact_segment_ends :
    compactCode 511 = 511 ∧ compactCode 512 = 512 ∧ compactCode 2047 = 895 ∧ compactCode 2048 = 896
      ∧ compactCode 8191 = 1279 ∧ compactCode 8192 = 1280 ∧ compactCode 32767 = 2047
      ∧ expandCode 2047 = 32752 ∧ expandSample true 2047 = -8384512 := by decide +kernel

/-- S of F29 and F59 by phase (R103), and the first lines of an F25 frame (07, a 48-word budget). -/
theorem test_samples_per_frame_and_line :
    (List.range 5).map (frameSamples .f29) = [1601, 1602, 1601, 1602, 1602]
      ∧ (List.range 5).map (frameSamples .f59) = [800, 801, 801, 801, 801]
      ∧ (List.range 13).map (lineSamples 1920) = [1, 2, 2, 1, 2, 2, 2, 1, 2, 2, 1, 2, 2] := by decide +kernel

/-! ### 03, 04: stripping and the source record -/

/-- The worked block of source 44: the fourth append completes it loud. -/
theorem test_block_completes_loud :
    let x := appendSamples { Source.powerOn with
      silenceLevel := 40, present := true, writeCount := 250000, validSpan := 8192, blockPosition := 60
      silentRun := 10, presentRun := 200, peak := 30 } [100, -5000, 10495, 10496, -12000, 0, 0, 0]
    (x.writeCount = 250008 ∧ x.validSpan = 8192 ∧ x.lastSample = 0 ∧ x.peak = 46)
      ∧ (x.silentRun, x.activeRun, x.presentRun) = (0, 1, 201) ∧ x.blockPosition = 4 ∧ x.blockLoud = true := by
  decide +kernel

/-- Two samples per track are appended and the group is seen; the packet is entered with its group. -/
theorem test_line_strips_sound :
    let two : List Instant := [#v[⟨1, true⟩, ⟨2, true⟩, ⟨3, true⟩, ⟨4, true⟩], #v[⟨5, true⟩, ⟨6, false⟩, ⟨7, true⟩, ⟨8, true⟩]]
    let line := packetLine (groupPacket 1 .full 7 two) 236
    ((after (exec (.inputCarriageLine 0 line) (withLane lockedLane))).map fun t =>
      ([4, 5, 6, 7].map fun i : SourceIx => t.sources[i].lastSample, (t.lanes[0]).seen,
        (t.lanes[0]).awaiting.map fun a => a.passList.map PassEntry.group)) =
      some ([5, 0, 7, 8], #v[false, true, false, false], some [some 1]) := by decide +kernel

/-- The worked damaged compact packet with m = 2 counts 2 on each source of its group. -/
theorem test_damage_counts_m :
    let packet := groupPacket 1 .compact 7 (List.replicate 2 (Vector.replicate 4 ⟨0, true⟩))
    ((after (exec (.inputCarriageLine 0 (packet.dropLast ++ [1])) (withLane lockedLane))).map fun t =>
      ((t.lanes[0]).counters.damaged, [4, 5, 6, 7, 8].map fun i : SourceIx => t.sources[i].dropped)) =
      some (1, [2, 2, 2, 2, 0]) := by decide +kernel

/-- A lane locks at the close of its second frame of one format (R3), and a LEADER then counts it (R139). -/
theorem test_second_frame_locks :
    ((after (exec (.frameStart 0 (some .f25)) (withLane { lockedLane with
      inputState := .acquiring, lineCount := 1120 }))).map fun t =>
        ((t.lanes[0]).inputState, (t.lanes[0]).firstFrame, t.ref.count)) = some (.locked, true, 1) := by
  decide +kernel

/-- A frame of 1119 lines is unrecognised and ends LOCKED (R2, R4). -/
theorem test_short_frame_ends_lock :
    ((after (exec (.frameStart 0 (some .f25)) (withLane { lockedLane with lineCount := 1119 }))).map fun t =>
      ((t.lanes[0]).inputState, (t.lanes[0]).format)) = some (.acquiring, none) := by decide +kernel

/-- A group seen in the frame makes its sources present at the input frame end (R47). -/
theorem test_frame_end_reports_presence :
    ((after (exec (.frameStart 0 (some .f25)) (withLane { lockedLane with
      lineCount := 1120, seen := #v[false, true, false, false] }))).map fun t =>
        [0, 3, 4, 7, 8].map fun i : SourceIx => t.sources[i].present) = some [false, false, true, true, false] := by
  decide +kernel

/-! ### 05 The Route Table -/

/-- The worked failover and revert: candidate 0 fails at silent run 150, is not ready at 180 and is at 210. -/
theorem test_candidate_tests_worked :
    let e : RouteEntry := { RouteEntry.powerOn with silenceWatch := true, failCode := 2, revertCode := 3 }
    let x : Source := { Source.powerOn with present := true, presentRun := 512 }
    (usable e { x with silentRun := 120 } = true ∧ usable e { x with silentRun := 150 } = false)
      ∧ readyToRevert e { x with activeRun := 180 } = false ∧ readyToRevert e { x with activeRun := 210 } = true := by
  decide +kernel

/-- The worked drift: e = 64 is left, e = 65 realigns, e = −65 moves the read count back. -/
theorem test_drift_worked :
    driftAllowed 544 480 = true ∧ driftAllowed 545 480 = false ∧ driftAllowed 415 480 = false
      ∧ driftAllowed 416 480 = true := by decide +kernel

/-- The worked lap: after the read the fill is 5999, k is 1 and laps and re-seats are one more. -/
theorem test_lap_worked :
    let sources := State.reset.sources.set 152 { Source.powerOn with writeCount := 20000, validSpan := 8192 }
    let e : RouteEntry := { liveEntry with candidates := [152], delay := 6000 }
    let r : LiveRecord := { LiveRecord.powerOn with
      state := .active, active := some 0, lastOut := 77
      current := some (makeStream 152 11000 16384 false false) }
    let t := (readOnce sources e r).1
    ((t.sourceStream.map (streamFill sources[152])) = some 5999 ∧ t.fade = 1)
      ∧ t.counters.laps = 1 ∧ t.counters.reseats = 1 ∧ t.lastOut = 77 := by decide +kernel

/-- The 32nd read of an IDLE destination's fade to silence hands on 3200 / 32 = 100 and leaves last output sample 0 (R96, R98). -/
theorem test_fade_to_silence_ends :
    let r : LiveRecord := { LiveRecord.powerOn with
      current := some (.fill .silence), old := some (.fill (.hold 3200)), fade := 31 }
    let t := readOnce State.reset.sources RouteEntry.powerOn r
    t.2 = ⟨100, false⟩ ∧ t.1.lastOut = 0 ∧ t.1.fade = 32 ∧ t.1.old = none := by decide +kernel

/-! ### 07 Embedding and the Line Arbiter -/

/-- Grants of lines 0 to 2 of the 48-word budget. -/
theorem test_grants_worked :
    grant 1 2 48 = 1 ∧ grant 1 2 12 = 1 ∧ grant 2 2 28 = 2 ∧ grant 2 2 8 = 0 ∧ grant 4 2 28 = 3 ∧ grant 4 2 0 = 0 := by
  decide +kernel

/-- Line 2 of the 48-word budget: pointer at group 3, depths 4, 4, 2 and 2 before placement, 1, 4, 2 and 0 after. -/
theorem test_line_two_depths :
    let depth (n : Nat) : List Instant := List.replicate n (Vector.replicate 4 ⟨0, false⟩)
    let placed := placeGroups { modes := Vector.replicate 4 .embedFull, budget := some 48 } 7 3
      #v[depth 4, depth 4, depth 2, depth 2] ⟨48, []⟩
    placed.1.map List.length = #v[1, 4, 2, 0] ∧ placed.2.room = 0 := by decide +kernel

/-- A budget of 32 to 256 words bounds a line of two 20-word packets. -/
theorem test_displaced_pass_packet :
    ((after (exec (.outputLineBuild 0) (withLane { buildingLane 1 [⟨none, List.replicate 20 1⟩, ⟨none, List.replicate 20 2⟩] with
      plan := { LanePlan.powerOn with budget := some 32 } }))).map fun t =>
        ((t.lanes[0]).counters.displaced, (t.lanes[0]).linkOut.take 21, (t.lanes[0]).replyTurn)) =
      some (1, List.replicate 20 1 ++ [0], .before) := by decide +kernel

/-! ### 08 Sound Ports -/

/-- The worked sink that stops: 148 free places take a truncated bundle, and none takes nothing. -/
theorem test_truncated_bundle :
    let bundle := soundBundle 0 37 (List.replicate 128 ⟨0, false⟩)
    (bundle.length = 259 ∧ (fitBundle 148 bundle).length = 148)
      ∧ (fitBundle 148 bundle).getLast? = some errorEndWord ∧ fitBundle 2 bundle = []
      ∧ (fitBundle 3 bundle).length = 3 ∧ fitBundle 259 bundle = bundle := by decide +kernel

/-- A good bundle of the worked run: count 21 after 18 is a gap, and the sources are present. -/
theorem test_bundle_gap_counted :
    ((after (exec (.stagingWordTaken 0) (withPort { Port.powerOn with
      inFifo := [endWord], staging := .body 1 21 1 (List.replicate 16 1) 16
      prevCount := #v[none, some 18, none, none] }))).map fun t =>
        ([136, 143, 144].map fun i : SourceIx => (t.sources[i].present, t.sources[i].gaps, t.sources[i].validSpan))) =
      some [(true, 1, 1), (true, 1, 1), (false, 0, 0)] := by decide +kernel

/-- R127, bundle taken first: the timer runs from the restart, and the expiry is still due. -/
theorem test_bundle_before_expiry :
    ((after (exec (.stagingWordTaken 0) (withPort { Port.powerOn with
      inFifo := [endWord], staging := .body 1 21 1 (List.replicate 16 1) 16
      absence := #v[none, some 2048, none, none], absenceDue := #v[false, true, false, false] }))).map fun t =>
        ((t.ports[0]).absence[1], (t.sources[136]).present, portDue 0 t.ports[0])) =
      some (some 0, true, [.channelAbsenceTimeout 0 1]) := by decide +kernel

/-- R127: the expiry, already due, is then taken; the channel ends absent with its timer running. -/
theorem test_expiry_after_bundle :
    let s : State := { withPort { Port.powerOn with
      absence := #v[none, some 0, none, none], absenceDue := #v[false, true, false, false] } with
      sources := State.reset.sources.set 136 { Source.powerOn with present := true } }
    ((after (step s)).map fun t => ((t.ports[0]).absence[1], (t.sources[136]).present, portDue 0 t.ports[0])) =
      some (some 0, false, []) := by decide +kernel

/-- R136: the second sample of a line waits behind the port frame that the first raised. -/
theorem test_sample_held_behind_frame :
    let x := clockSamples 2 { Port.powerOn with position := 1023, clock := .lane 0 }
    (x.position, x.heldSamples, x.frameDue) = (0, 1, true) := by decide +kernel

/-- R136: at a frame whose take changes the clock the new clock moves the position from 0 on; else the held sample falls. -/
theorem test_frame_changes_clock :
    let x : Port := { Port.powerOn with
      heldSamples := 1, frameDue := true, clock := .lane 0, plan := { PortPlan.powerOn with clock := .lane 0 } }
    let k : Take := { openedTake with state := .pending, scope := 8, plan := some (.port PortPlan.powerOn) }
    let position (take : Option Take) := (after (exec (.portFrame 0) { withPort x with take := take })).map fun t =>
      ((t.ports[0]).position, (t.ports[0]).heldSamples)
    position (some k) = some (0, 0) ∧ position none = some (1, 0) := by decide +kernel

/-- Two channels and a reply in a period with 300 free places: the first bundle whole, the second cut short to the 41 that are
left, no place for the reply (R133 to R135). -/
theorem test_period_of_two_channels :
    ((after (exec (.portPeriod 0) { withPort { Port.powerOn with
      transmit := .running, running := #v[true, false, true, false], outFifo := List.replicate 1748 endWord } with
      replies := [shortReply 8] })).map fun t =>
        ([0, 1748, 2006, 2007, 2047].map fun i => (t.ports[0]).outFifo[i]?,
          (t.ports[0]).counters.truncated, t.replies.length)) =
      some ([some endWord, some (startWord 0), some endWord, some (startWord 2), some errorEndWord], 1, 1) := by
  decide +kernel

/-- R123: on an empty queue the staging takes a waiting word before a station-clock sample passes; a disabled port's does not. -/
theorem test_staging_takes_waiting_word :
    let taken (enabled : Bool) := (after (step (withPort { Port.powerOn with
      receiveEnable := enabled, inFifo := [startWord 3, endWord] }))).map fun t =>
        ((t.ports[0]).staging, (t.ports[0]).inFifo.length, (t.ports[0]).position)
    taken true = some (.header 3, 1, 0) ∧ taken false = some (.idle, 2, 1) := by decide +kernel

/-- n above 64 and channel code 5 are discarded (the worked run). -/
theorem test_bundles_discarded :
    let discards (g : Staging) := ((after (exec (.stagingWordTaken 0) (withPort { Port.powerOn with
      inFifo := [endWord], staging := g }))).map fun t => (t.ports[0]).counters.discarded)
    discards (.body 3 0 65 [] 1040) = some 1 ∧ discards (.body 5 0 1 [] 16) = some 1 := by decide +kernel

/-! ### 09 Frame Count and Cadence -/

/-- The worked fractional lane: phase 3 follows 2 without a slip; 106 modulo 5 = 1 where 0 was due is a slip. -/
theorem test_phase_worked :
    (nextPhase false true 103 2 = 3 ∧ phaseSlips false true 103 2 = false)
      ∧ nextPhase false true 106 4 = 1 ∧ phaseSlips false true 106 4 = true := by decide +kernel

/-- RC and marks wrap from 59999 to 0 (R139, R141). -/
theorem test_count_wraps : nextCount 59999 = 0 ∧ nextCount 58 = 59 := by decide +kernel

/-! ### 10, 11: takes and control -/

/-- SET ROUTE clamps a delay and answers ADJUSTED (R152). -/
theorem test_route_delay_clamped :
    ((after (exec (.setRoute 0 9 [3, 0x0101, 0, 16384, 6001, 40]) { State.reset with take := some openedTake })).map
      fun t => (t.take.map fun k => k.latches.map fun c => (c.1, c.2.delay), t.replies.map Reply.payload)) =
      some (some [(3, 6000)], [[0x0100, 9, 0x21]]) := by decide +kernel

/-- A destination of another scope is OUT OF SCOPE (R152); a seventh undo record loses the oldest (R158). -/
theorem test_scope_and_undo_depth :
    ((after (exec (.setRoute 0 9 [16, 0x0101, 0, 16384, 480, 40]) { State.reset with take := some openedTake })).map
      fun t => t.replies.map Reply.payload) = some [[0x1200, 9, 0x21]]
      ∧ ((pushUndo pendingTake { State.reset with
          undo := Vector.replicate 10 (List.replicate 6 ⟨[], none⟩) }).undo[0]).map (fun u => u.entries.length) =
        [1, 0, 0, 0, 0, 0] := by decide +kernel

/-- SET PLAN reads the modes from the low bits up and clamps a budget of 31 (R153). -/
theorem test_plan_words :
    (readLanePlan 0x00E4 31).modes = #v[.pass, .strip, .embedFull, .embedCompact]
      ∧ (readLanePlan 0x00E4 31).budget = some 32 ∧ (readLanePlan 0 0).budget = none
      ∧ (readPortPlan 0x0005 0x000B).clock = .station ∧ (readPortPlan 0x0005 0x0003).clock = .lane 3 := by
  decide +kernel

/-- With 8 replies queued a request is dropped and counted (the worked queue that fills). -/
theorem test_ninth_request_dropped :
    ((after (exec (.readDevice 2 1 []) { State.reset with replies := List.replicate 8 (shortReply 5) })).map fun t =>
      (t.replies.length, t.unanswered)) = some (8, 1) := by decide +kernel

/-- READ DEVICE of a unit strapped to address 5, FOLLOWER, L3: strap word 0x0705 (R27). -/
theorem test_read_device_reply :
    ((after (exec (.readDevice 2 0x77 []) { State.reset with straps := ⟨5, .follower, 3⟩ })).map fun t => t.replies) =
      some [⟨2, [0x0005, 0x77, 0x08, 0x0705, 0, 0]⟩] := by decide +kernel

/-- UNDO TAKE on an empty stack is EMPTY (R161); an unknown kind is BAD REQUEST (R25). -/
theorem test_undo_empty_and_unknown_kind :
    ((after (exec (.undoTake 8 1 [8]) State.reset)).map fun t => t.replies) = some [⟨8, [0x1600, 1, 0x25]⟩]
      ∧ ((after (exec (.unknownRequestKind 8 0x30 1 []) State.reset)).map fun t => t.replies) =
        some [⟨8, [0x1500, 1, 0x30]⟩] := by decide +kernel

/-! ### Witnesses: for each statement with hypotheses, a state and operands that meet them, clause by clause -/

theorem witness_IdleStepLetsStationClockRun :
    State.reset.pending = [] ∧ State.reset.resetHeld = false ∧ dueSteps State.reset = [] := by decide +kernel

theorem witness_CommandsCompleteAndKeepQueueAndStraps (u : BitVec 7) (role : Role) (lane : LaneIx) :
    Instr.takeExpiry ≠ .powerOnResetRelease u role lane := nofun

theorem witness_PowerOnResetHoldsBypass :
    let s := { withLane lockedLane with resetHeld := true }
    s.resetHeld = true ∧ (s.lanes[0]).linkSignal = true := by decide +kernel

theorem witness_LinkSignalMovesUnlockedLane :
    (State.reset.resetHeld = false ∧ (State.reset.lanes[0]).inputState = .noSignal)
      ∧ ((withLane { lockedLane with inputState := .acquiring }).resetHeld = false
        ∧ ((withLane { lockedLane with inputState := .acquiring }).lanes[0]).inputState = .acquiring)
      ∧ (withLane lockedLane).resetHeld = false ∧ ((withLane lockedLane).lanes[0]).inputState = .locked := by
  decide +kernel

/-- A LOCKED lane with a take that waits on another scope; its frame closes short, in another format, and long. -/
theorem witness_LaneLossReachesEveryBlock :
    let s (lines : Nat) := { withLane { lockedLane with lineCount := lines } with
      take := some { pendingTake with scope := 8 } }
    ((s 0).resetHeld = false ∧ ((s 0).lanes[0]).inputState = .locked
        ∧ ∀ k ∈ (s 0).take, k.state = .pending → k.scope.val ≠ 0)
      ∧ (((s 1119).lanes[0]).frameOpen = true ∧ ((s 1119).lanes[0]).lineCount < 1120)
      ∧ (((s 1120).lanes[0]).frameOpen = true ∧ some Format.f24 ≠ ((s 1120).lanes[0]).format)
      ∧ 1120 ≤ ((s 1120).lanes[0]).lineCount := by decide +kernel

/-- An ACQUIRING lane: no frame open; a frame of 1119 lines and one of another format; one of the candidate format. -/
theorem witness_FrameStartWhileAcquiring :
    let s (opened : Bool) (lines : Nat) :=
      withLane { lockedLane with inputState := .acquiring, frameOpen := opened, lineCount := lines }
    let seen (lines : Nat) (timing : Option Format) := if lines < 1120 then none else timing
    ((s false 0).resetHeld = false ∧ ((s false 0).lanes[0]).inputState = .acquiring
        ∧ ((s false 0).lanes[0]).frameOpen = false)
      ∧ (((s true 1119).lanes[0]).frameOpen = true ∧ seen ((s true 1119).lanes[0]).lineCount (some .f25) = none)
      ∧ seen ((s true 1120).lanes[0]).lineCount (some .f24) ≠ ((s true 1120).lanes[0]).format
      ∧ seen ((s true 1120).lanes[0]).lineCount (some .f25) ≠ none
      ∧ seen ((s true 1120).lanes[0]).lineCount (some .f25) = ((s true 1120).lanes[0]).format := by decide +kernel

theorem witness_FrameStartKeepsLock :
    let s := withLane { lockedLane with lineCount := 1120, seen := #v[true, false, false, false] }
    s.resetHeld = false ∧ (s.lanes[0]).inputState = .locked ∧ (s.lanes[0]).frameOpen = true
      ∧ 1120 ≤ (s.lanes[0]).lineCount ∧ (s.lanes[0]).format = some .f25 := by decide +kernel

/-- No signal; no frame open; a line below and at the 1121st. -/
theorem witness_UnlockedLanePassesLines :
    let s (opened : Bool) (lines : Nat) :=
      withLane { lockedLane with inputState := .acquiring, frameOpen := opened, lineCount := lines }
    (State.reset.lanes[0]).inputState = .noSignal
      ∧ ((s false 0).resetHeld = false ∧ ((s false 0).lanes[0]).inputState = .acquiring
        ∧ ((s false 0).lanes[0]).frameOpen = false)
      ∧ ((s true 1119).lanes[0]).lineCount < 1120 ∧ 1120 ≤ ((s true 1120).lanes[0]).lineCount := by decide +kernel

/-- The last line of an open frame. -/
theorem takesLine_last : (withLane { lockedLane with lineCount := 1119 }).takesLine 0 := by
  unfold State.takesLine
  decide +kernel

/-- Two packets for other equipment; behind two words passed over, a packet without payload and one of 255 words. -/
theorem witness_LineCarriesForeignPackets :
    (withLane { lockedLane with lineCount := 1119 }).takesLine 0
      ∧ (∀ q ∈ [((0x60 : Byte), List.replicate 255 (0xC3A5 : Word)), (0x5B, [1, 2, 3])], q.2.length ≤ 255
        ∧ (packetClass q.1 = .foreign ∨ (packetClass q.1 = .reply ∧ 3 ≤ q.2.length)))
      ∧ (∀ w ∈ ([0, 0xC3A4] : List Word), w ≠ leadWord)
      ∧ ([1] : List Word).length = (loByte 0x6000).toNat + 1
      ∧ (List.replicate 256 (1 : Word)).length = (loByte 0x60FF).toNat + 1 :=
  ⟨takesLine_last, by decide +kernel, by simp [leadWord], by decide +kernel,
    List.length_replicate.trans (by decide +kernel)⟩

/-- One instant and four. -/
theorem witness_SoundPacketIsStripped :
    (withLane { lockedLane with lineCount := 1119 }).takesLine 0
      ∧ ∀ m ∈ [1, 4], 1 ≤ (List.replicate m (Vector.replicate 4 (⟨7, true⟩ : OutSample))).length
        ∧ (List.replicate m (Vector.replicate 4 (⟨7, true⟩ : OutSample))).length ≤ 4 :=
  ⟨takesLine_last, by decide +kernel⟩

/-- A wrong check word; a frame mark of 2 words, a request of 1, a reply of 2; a full grade packet one word short and a
compact one with m = 5; a packet one word past the line end; a lead word last. -/
theorem witness_DamageIsDroppedAndCounted :
    (withLane { lockedLane with lineCount := 1119 }).takesLine 0
      ∧ ([7, 8].length = (loByte 0x5001).toNat + 1
        ∧ (([leadWord, 0x5001, 7, 8] : List Word).map BitVec.toNat).sum % 65536 ≠ 0)
      ∧ ([1, 2, 3].length = (loByte 0x5002).toNat + 1 ∧ [1, 2].length = (loByte 0x5A01).toNat + 1
        ∧ [1, 2, 3].length = (loByte 0x5B02).toNat + 1)
      ∧ ((hiByte 0x5002).toNat = 0x50 ∧ (loByte 0x5002).toNat ≠ 1 ∧ (hiByte 0x5A01).toNat = 0x5A
        ∧ (loByte 0x5A01).toNat < 2 ∧ (hiByte 0x5B02).toNat = 0x5B ∧ (loByte 0x5B02).toNat < 3)
      ∧ ((hiByte 0x4108).toNat = 0x41 ∧ (hiByte 0x4C11).toNat = 0x4C ∧ (loByte 0x4108).toNat ≠ 1 + 8 * 1
        ∧ (loByte 0x4C11).toNat = 1 + 4 * 4 ∧ 4 < (5 : Word).toNat % 8)
      ∧ (∀ head rest, ([0x5001, 7] : List Word) = head :: rest → rest.length < (loByte head).toNat + 1)
      ∧ ∀ head rest, ([] : List Word) = head :: rest → rest.length < (loByte head).toNat + 1 :=
  ⟨takesLine_last, by decide +kernel, by decide +kernel, by decide +kernel, by decide +kernel,
    by intro head rest h; cases h; decide +kernel, by intro head rest h; cases h⟩

/-- A FOLLOWER's mark of 0 after RC 59999. -/
theorem witness_MarkInStepIsPropagated :
    let s := { withLane { lockedLane with lineCount := 1119 } with
      ref := { State.reset.ref with role := .follower, count := 59999 } }
    (s.resetHeld = false ∧ (s.lanes[0]).inputState = .locked ∧ (s.lanes[0]).frameOpen = true
        ∧ (s.lanes[0]).lineCount < 1120)
      ∧ (s.lanes[0]).format = some .f25 ∧ s.ref.role = .follower ∧ inSet s.ref.markIn 0 = true
      ∧ (0 : Fin 60000).val = (s.ref.count.val + 1) % 60000 := by decide +kernel

/-- A lane of neither set; a count of 60000; 59999 on a LEADER; a FOLLOWER's mark equal to RC. -/
theorem witness_MarkNotInStepIsJudged :
    let s (role : Role) (markIn : BitVec 8) := { withLane lockedLane with
      ref := { State.reset.ref with role := role, markIn := markIn, count := 59999 } }
    (((s .leader 0).lanes[0]).format = some .f25
        ∧ (inSet (s .leader 0).ref.markIn 0 || inSet (s .leader 0).ref.markOut 0) = false)
      ∧ ((inSet (s .leader 1).ref.markIn 0 || inSet (s .leader 1).ref.markOut 0) = true ∧ 60000 ≤ (60000 : Word).toNat)
      ∧ ((59999 : Word).toNat < 60000 ∧ (s .leader 1).ref.role = .leader)
      ∧ ((s .follower 1).ref.role = .follower ∧ inSet (s .follower 1).ref.markIn 0 = true
        ∧ (59999 : Word).toNat ≠ ((s .follower 1).ref.count.val + 1) % 60000) := by decide +kernel

/-- A request without parameters and an unknown one of 253, on L0; this unit's address, the broadcast one and another. -/
theorem witness_RequestOnLineIsSorted :
    let s := withLane { lockedLane with lineCount := 1119 }
    s.takesLine 0 ∧ s.replies.length < 8
      ∧ (∀ c ∈ [Instr.resetUnit 0 9 [], .unknownRequestKind 0 0xFF 9 (List.replicate 253 7)],
        ∃ q, requestOf c = some q ∧ c.wellFormed = true ∧ q.iface = laneScope 0)
      ∧ (0 : Byte).toNat = s.straps.unitAddress.toNat ∧ (255 : Byte).toNat = 255
      ∧ (254 : Byte).toNat ≠ s.straps.unitAddress.toNat :=
  ⟨takesLine_last, by decide +kernel, by
    intro c h
    rcases List.mem_cons.1 h with rfl | h
    · exact ⟨_, rfl, rfl, rfl⟩
    · rcases List.mem_singleton.1 h with rfl
      exact ⟨_, rfl, by decide +kernel, rfl⟩, by decide +kernel, by decide +kernel, by decide +kernel⟩

theorem witness_OutputFrameStartSettlesLane :
    (State.reset.resetHeld = false ∧ (State.reset.lanes[0]).inputState ≠ .locked)
      ∧ ((withLane lockedLane).lanes[0]).inputState = .locked
      ∧ ∀ k ∈ (withLane lockedLane).take, k.state = .pending → k.scope.val ≠ 0 := by decide +kernel

/-- A LOCKED lane with a take PENDING on its scope, in a state whose records and output sides agree; a destination that the
take latched and one that it did not. -/
theorem witness_OutputFrameStartAppliesTake :
    let s := { withLane lockedLane with take := some pendingTake }
    s.resetHeld = false ∧ (s.lanes[0]).inputState = .locked ∧ s.take = some pendingTake
      ∧ pendingTake.state = .pending ∧ pendingTake.scope.val = 0 ∧ s.outputsConsistent
      ∧ (trackScope 3 = pendingTake.scope ∧ (∃ c ∈ pendingTake.latches, c.1 = 3) ∧ ∀ c ∈ pendingTake.latches, c.1 ≠ 4) := by
  decide +kernel

/-- A take on the port's scope with a port plan and a latched destination; one without a plan; a sample held. -/
theorem witness_PortFrameSettlesPort :
    let k : Take := { openedTake with
      state := .pending, scope := 8, plan := some (.port { channels := Vector.replicate 4 true, clock := .lane 3 })
      latches := [(159, liveEntry)] }
    let s := { withPort { Port.powerOn with transmit := .running } with take := some k }
    (State.reset.resetHeld = false ∧ ∀ x ∈ State.reset.take, x.state = .pending → x.scope.val ≠ 8)
      ∧ s.resetHeld = false ∧ s.take = some k ∧ k.state = .pending ∧ k.scope.val = 8 ∧ s.outputsConsistent
      ∧ (trackScope 159 = k.scope ∧ ∃ c ∈ k.latches, c.1 = 159) ∧ { k with plan := none }.plan = none
      ∧ (s.ports[0]).heldSamples = 0 ∧ { Port.powerOn with heldSamples := 1 }.position = 0 := by decide +kernel

/-- A lane that is not LOCKED, one without a parsed line, and one with a line to build. -/
theorem witness_BuildStaysWithinBudget :
    ((State.reset.lanes[0]).inputState ≠ .locked ∧ ((withLane lockedLane).lanes[0]).awaiting = none)
      ∧ (withLane (buildingLane 1119 [])).buildsLine 0 .f25 ⟨1119, List.replicate 256 0, []⟩ := by
  unfold State.buildsLine
  decide +kernel

theorem witness_BuiltLineReadsBack :
    ∀ q ∈ [((0x60 : Byte), List.replicate 255 (0xC3A5 : Word)), (0x41, [])], q.2.length ≤ 255 := by decide +kernel

/-- Entries that fill a 32-word budget exactly; one word too long a packet between them; a reply that fits exactly, alone and
with entries in either turn. -/
theorem witness_LowClassIsOffered :
    let fits : PassEntry := ⟨none, List.replicate 16 1⟩
    let other : PassEntry := ⟨some 1, List.replicate 16 2⟩
    let long : PassEntry := ⟨none, List.replicate 33 3⟩
    let s (passList : List PassEntry) (replies : List Reply) : State :=
      { withLane { buildingLane 1 passList with plan := { LanePlan.powerOn with budget := some 32 } } with
        replies := replies }
    let r : Reply := ⟨0, List.replicate 29 7⟩
    ((s [fits, other] []).buildsLine 0 .f25 ⟨1, List.replicate 256 0, [fits, other]⟩
        ∧ ((s [fits, other] []).lanes[0]).embedsNothing
        ∧ (∀ h : GroupIx, (((s [fits, other] []).lanes[0]).queues[h]).length ≤ 8)
        ∧ (s [fits, other] []).noReplyFor 0
        ∧ (fits.words ++ other.words).length ≤ ((s [fits, other] []).lanes[0]).budgetOn .f25)
      ∧ ((s [fits, long, other] []).buildsLine 0 .f25 ⟨1, List.replicate 256 0, [fits] ++ long :: [other]⟩
        ∧ ((s [fits, long, other] []).lanes[0]).budgetOn .f25 < long.words.length
        ∧ (fits.words ++ other.words).length ≤ ((s [fits, long, other] []).lanes[0]).budgetOn .f25)
      ∧ ((s [] [shortReply 1, r, shortReply 0]).buildsLine 0 .f25 ⟨1, List.replicate 256 0, []⟩
        ∧ (s [] [shortReply 1, r, shortReply 0]).replies = [shortReply 1] ++ r :: [shortReply 0]
        ∧ r.iface.val = 0 ∧ (∀ x ∈ [shortReply 1], x.iface.val ≠ 0)
        ∧ r.payload.length + 3 ≤ ((s [] [shortReply 1, r, shortReply 0]).lanes[0]).budgetOn .f25)
      ∧ ((s [fits] [r]).buildsLine 0 .f25 ⟨1, List.replicate 256 0, [fits]⟩ ∧ (s [fits] [r]).replies = [] ++ r :: []
        ∧ ((s [fits] [r]).lanes[0]).replyTurn = .before
        ∧ ({ buildingLane 1 [fits] with replyTurn := .after } : Lane).replyTurn = .after) := by
  unfold State.buildsLine Lane.embedsNothing State.noReplyFor
  decide +kernel

/-- Line 0 of a LEADER's mark-output lane, and of a FOLLOWER's lane with a pending mark. -/
theorem witness_MarkIsPlacedOnLineZero :
    let s (role : Role) : State := { withLane (buildingLane 0 []) with
      ref := { State.reset.ref with role := role, markOut := 1, pendingMark := Vector.replicate 8 (some 59999) } }
    ∀ role, ((s role).buildsLine 0 .f25 ⟨0, List.replicate 256 0, []⟩ ∧ ((s role).lanes[0]).embedsNothing
      ∧ (∀ h : GroupIx, (((s role).lanes[0]).queues[h]).length ≤ 8)
      ∧ (s role).noReplyFor 0 ∧ 4 ≤ ((s role).lanes[0]).budgetOn .f25) ∧ (s role).ref.role = role := by
  unfold State.buildsLine Lane.embedsNothing State.noReplyFor
  intro s role
  cases role <;> decide +kernel

/-- Two EMBED groups, the one at the rotation pointer with a full carry queue and a budget that leaves the other 8 words, on a
line that makes reads (F25 line 1) and on line 0. -/
theorem witness_GroupPacketIsGranted :
    let s (j : Nat) := withLane { buildingLane j [] with
      plan := { modes := #v[.embedCompact, .embedFull, .strip, .pass], budget := some 44 }, rotation := 1
      running := #v[true, true, false, false]
      queues := #v[[Vector.replicate 4 ⟨5, true⟩], List.replicate 8 (Vector.replicate 4 ⟨5, true⟩), [], []] }
    ((s 1).buildsLine 0 .f25 ⟨1, List.replicate 256 0, []⟩ ∧ (s 0).buildsLine 0 .f25 ⟨0, List.replicate 256 0, []⟩)
      ∧ 4 ≤ ((s 1).lanes[0]).budgetOn .f25 ∧ 4 ≤ ((s 0).lanes[0]).budgetOn .f25 ∧ (s 1).samplesOn 0 .f25 1 = 2
      ∧ roundGrants ((s 1).lanes[0]).plan (fun g => (((s 1).lanes[0]).queues[g]).length) [1, 2, 3, 0] 44 =
        [(1, 4), (2, 0), (3, 0), (0, 1)] := by
  unfold State.buildsLine
  decide +kernel

/-- A group that reads, and one that does not, on a line to build of two samples. -/
theorem witness_LineReadsFillQueues :
    let l := { buildingLane 1 [] with
      plan := { modes := #v[.embedFull, .pass, .pass, .pass], budget := none }, running := #v[true, false, false, false] }
    (l.running[0] && embeds l.plan.modes[0]) = true ∧ (l.running[1] && embeds l.plan.modes[1]) = false
      ∧ (l.queues[1]).length ≤ 8 ∧ (withLane l).buildsLine 0 .f25 ⟨1, List.replicate 256 0, []⟩
      ∧ (withLane l).samplesOn 0 .f25 1 = 2 := by
  unfold State.buildsLine
  decide +kernel

/-- An ACTIVE record at fill 8192, 0, 1 and 8191; one whose fade is at k = 31; a FILLING and an IDLE one. -/
theorem witness_ReadTakesStreamCases :
    let st (fill : Nat) : SourceStream := {
      source := 40, readCount := 0 - BitVec.ofNat 24 fill, gain := 16384, invert := false, mute := false
      lastYield := none }
    let fill (n : Nat) := ((State.reset.sources[(40 : SourceIx)]).writeCount - (st n).readCount).toNat
    let r : LiveRecord := { LiveRecord.powerOn with
      state := .active, current := some (.source (st 8191)), old := some (.source (st 8192)), fade := 31 }
    let filling : LiveRecord := { LiveRecord.powerOn with state := .filling, current := some (.fill (.hold 5)) }
    (128 ≤ liveEntry.delay ∧ liveEntry.delay ≤ 6000) ∧ 8191 < fill 8192 ∧ fill 0 = 0
      ∧ (1 ≤ fill 1 ∧ fill 1 ≤ 8191) ∧ (1 ≤ fill 8191 ∧ fill 8191 ≤ 8191)
      ∧ (r.state ≠ .parked ∧ r.fade < 32 ∧ (st 8191).fillIn State.reset.sources ≤ 8191)
      ∧ filling.fade = 32 ∧ LiveRecord.powerOn.state = .idle ∧ LiveRecord.powerOn.fade = 32
      ∧ LiveRecord.powerOn.current = none := by decide +kernel

/-- A PARKED destination whose candidate is present starts at the check; at an application it starts too. A disabled entry; a
candidate that is first, and none; an IDLE record in a fade to silence and without one; a FILLING one of either kind; an ACTIVE
one on the candidate's source and on another, at fill 8192, 8191, D + 65, D + 64, D − 64 and D − 65. -/
theorem witness_ActiveFillIsNearDelay :
    let sources := State.reset.sources.set 40 { Source.powerOn with present := true }
    let parked : LiveRecord := { LiveRecord.powerOn with state := .parked }
    let st (fill : Nat) : SourceStream := {
      source := 40, readCount := 0 - BitVec.ofNat 24 fill, gain := 16384, invert := false, mute := false
      lastYield := none }
    let r (state : DestState) (x : Stream) (fade : Nat) : LiveRecord :=
      { LiveRecord.powerOn with state := state, current := some x, fade := fade }
    ((128 ≤ liveEntry.delay ∧ liveEntry.delay ≤ 6000)
        ∧ ∀ t ∈ [check sources liveEntry true parked, enterEntry sources 480 liveEntry true parked],
          t.state = .active ∧ t.sourceStream.map SourceStream.source = some 40)
      ∧ (RouteEntry.powerOn.enabled = false ∧ liveEntry.enabled = true)
      ∧ (liveEntry.candidates[0]? = some 40 ∧ (sources[(40 : SourceIx)]).present = true ∧ liveEntry.silenceWatch = false)
      ∧ (∀ c ∈ liveEntry.candidates, (State.reset.sources[c]).present ≠ true)
      ∧ ((r .idle (.fill .silence) 31).fade < 32 ∧ parked.fade = 32)
      ∧ (∀ x ∈ [FillStream.silence, .hold 5], (r .filling (.fill x) 32).current = some (.fill x))
      ∧ ((r .active (.source (st 480)) 32).current = some (.source (st 480)) ∧ (40 : SourceIx) = (st 480).source
        ∧ (41 : SourceIx) ≠ (st 480).source)
      ∧ (8191 < (st 8192).fillIn sources ∧ (st 8191).fillIn sources ≤ 8191)
      ∧ (liveEntry.delay + 64 < (st 545).fillIn sources ∧ (st 544).fillIn sources ≤ liveEntry.delay + 64)
      ∧ (liveEntry.delay ≤ (st 416).fillIn sources + 64 ∧ (st 415).fillIn sources + 64 < liveEntry.delay) := by
  decide +kernel

/-- Candidate 0 absent, with no other and with candidate 1 present; candidate 0 ready while 1 is active; a stream at fill
8192, at D + 64 and at D + 65; a PARKED record. -/
theorem witness_FailoverTakesMostPreferred :
    let loud : Source := { Source.powerOn with present := true, presentRun := 512, activeRun := 512 }
    let sources := State.reset.sources.set 104 { Source.powerOn with present := true, silentRun := 511 }
    let two : RouteEntry := { liveEntry with candidates := [40, 104], silenceWatch := true }
    let r : LiveRecord := { LiveRecord.powerOn with state := .active, active := some 0 }
    let st (fill : Nat) : SourceStream := {
      source := 40, readCount := 0 - BitVec.ofNat 24 fill, gain := 16384, invert := false, mute := false
      lastYield := none }
    (r.state = .active ∧ r.active = some 0 ∧ liveEntry.candidates[0]? = some 40 ∧ (sources[40]).present ≠ true)
      ∧ liveEntry.candidates.length = 1
      ∧ (two.candidates[1]? = some 104 ∧ (sources[104]).present = true ∧ (sources[104]).silentRun < 512)
      ∧ (two.policy = .auto ∧ loud.present = true ∧ loud.silentRun < 512 ∧ 512 ≤ loud.activeRun)
      ∧ (8191 < (st 8192).fillIn sources ∧ (st 544).fillIn sources = two.delay + 64
        ∧ (st 545).fillIn sources = two.delay + 65)
      ∧ { LiveRecord.powerOn with state := .parked }.fade = 32 := by decide +kernel

/-- The append that completes a block, and one to an absent source. -/
theorem witness_AppendTakesSample :
    let x : Source := { Source.powerOn with present := true, blockPosition := 63, buffer := [(8191, 5)] }
    (Memory.wf x.buffer = true ∧ x.blockPosition < 64 ∧ x.present = true ∧ x.blockPosition = 63)
      ∧ Source.powerOn.present = false ∧ Memory.wf Source.powerOn.buffer = true := by decide +kernel

/-- A FIFO of 2047 words and of 2048; staging in each of its states with a word to take, and nothing due before it. -/
theorem witness_ReceiveSideTakesWords :
    let x (g : Staging) : Port := { Port.powerOn with inFifo := [startWord 7], staging := g }
    State.reset.resetHeld = false
      ∧ ({ Port.powerOn with receiveEnable := false }.receiveEnable = false ∧ Port.powerOn.inFifo = [])
      ∧ ∀ g ∈ [Staging.idle, .header 7, .body 7 0 0 (List.replicate 1024 0) 1024],
        (x g).receiveEnable = true ∧ (x g).inFifo = startWord 7 :: [] ∧ (x g).staging = g ∧ (x g).inFifo ≠ []
          ∧ (withPort (x g)).pending = [] ∧ ∀ c : ChanIx, (x g).absenceDue[c] = false := by decide +kernel

/-- A bundle of n = 1 and of n = 64 at its END. -/
theorem witness_GoodBundleIsTaken :
    ∀ n ∈ [1, 64],
      let s := withPort { Port.powerOn with
        inFifo := [endWord], staging := .body 3 255 n (List.replicate (16 * n) 1) (16 * n) }
      s.resetHeld = false ∧ (s.ports[0]).receiveEnable = true ∧ (s.ports[0]).inFifo = endWord :: []
        ∧ endWord.marker = true ∧ endWord.data.toNat % 16 = 2
        ∧ (s.ports[0]).staging = .body (3 : ChanIx).val 255 n (List.replicate (16 * n) 1) (16 * n)
        ∧ (List.replicate (16 * n) (1 : Word)).length = 16 * n ∧ 1 ≤ n ∧ n ≤ 64 := by decide +kernel

/-- n = 65; channel code 4; control bundles of 1 and 256 words; one for another unit; a READ DEVICE to all. -/
theorem witness_BundleIsJudged :
    let s (g : Staging) := withPort { Port.powerOn with inFifo := [endWord], staging := g }
    let request : List Word := [BitVec.ofNat 16 (0x0800 + 255), 9]
    (∀ g ∈ [Staging.body 3 0 65 [] 1040, .body 4 0 1 [] 16, .body 7 0 0 [5] 1, .body 7 0 0 [] 256,
        .body 7 0 0 [0x0803, 9] 2, .body 7 0 0 request 2],
      (s g).resetHeld = false ∧ ((s g).ports[0]).receiveEnable = true ∧ ((s g).ports[0]).inFifo = endWord :: []
        ∧ ((s g).ports[0]).staging = g)
      ∧ (endWord.marker = true ∧ endWord.data.toNat % 16 = 2)
      ∧ ((0x0803 : Word).toNat % 256 ≠ State.reset.straps.unitAddress.toNat ∧ (0x0803 : Word).toNat % 256 ≠ 255)
      ∧ ((request.getD 0 0).toNat % 256 = 255 ∧ (s (.body 7 0 0 request 2)).replies.length < 8)
      ∧ (requestOf (.readDevice 8 9 []) = some ⟨8, 0x08, 9, []⟩ ∧ (Instr.readDevice 8 9 []).wellFormed = true
        ∧ (8 : Iface) = portScope 0 ∧ request = Request.payload ⟨8, 0x08, 9, []⟩ 255) := by decide +kernel

/-- An expiry due on channel 2 after a bundle has restarted its timer, none due on channels 0 and 1. -/
theorem witness_AbsenceTimeoutEndsPresence :
    let s := withPort { Port.powerOn with
      absence := #v[some 2047, none, some 0, some 2048], absenceDue := #v[false, false, true, true] }
    s.resetHeld = false ∧ s.pending = [] ∧ ((0 : PortIx) = 1 → portDue 0 s.ports[0] = [])
      ∧ (s.ports[0]).absenceDue[(2 : ChanIx)] = true
      ∧ ∀ b : ChanIx, b < 2 → (s.ports[0]).absenceDue[b] = false := by decide +kernel

/-- A DISABLED, a STALLED and a RUNNING port; replies for the port behind one for a lane. -/
theorem witness_PortPeriodByState :
    let x (state : TransmitState) : Port := { Port.powerOn with transmit := state }
    let s := { withPort (x .running) with replies := [shortReply 0, shortReply 8, shortReply 8] }
    ((withPort (x .disabled)).resetHeld = false ∧ (x .disabled).transmit = .disabled ∧ (x .stalled).transmit = .stalled)
      ∧ ((x .running).transmit = .running ∧ (x .running).running = Vector.replicate 4 false
        ∧ (withPort (x .running)).noReplyFor 8)
      ∧ s.replies = [shortReply 0] ++ shortReply 8 :: [shortReply 8] ∧ (shortReply 8).iface.val = 8
      ∧ ∀ z ∈ [shortReply 0], z.iface.val ≠ 8 := by
  unfold State.noReplyFor
  decide +kernel

/-- Two channels run and a reply waits; 259, 258, 3 and 2 free places. -/
theorem witness_SoundBundleFollowsRoom :
    ∀ free ∈ [259, 258, 3, 2],
      let s := { withPort { Port.powerOn with
        transmit := .running, running := #v[true, false, true, false]
        outFifo := List.replicate (2048 - free) endWord } with replies := [shortReply 8] }
      s.resetHeld = false ∧ (s.ports[0]).transmit = .running ∧ 2048 - (s.ports[0]).outFifo.length = free := by
  decide +kernel

/-- A port that does not run and one that does; an empty out FIFO; words that leave 1024 and 2047. -/
theorem witness_StallStopsAndWordsResume :
    let x (k : Nat) : Port := { Port.powerOn with transmit := .stalled, outFifo := List.replicate k endWord }
    State.reset.resetHeld = false ∧ Port.powerOn.transmit ≠ .running
      ∧ { Port.powerOn with transmit := .running }.transmit = .running ∧ Port.powerOn.outFifo = []
      ∧ (x 1025).outFifo = endWord :: List.replicate 1024 endWord
      ∧ (x 2048).outFifo = endWord :: List.replicate 2047 endWord := by decide +kernel

/-- A take of the lane's own interface, PENDING on it; a frame short of lines, and one that has 1120 of them. -/
theorem witness_LaneLossAppliesTake :
    let s (lines : Nat) := { withLane { lockedLane with lineCount := lines } with take := some pendingTake }
    (∀ lines ∈ [1119, 1120], (s lines).resetHeld = false ∧ ((s lines).lanes[0]).inputState = .locked
        ∧ (s lines).take = some pendingTake ∧ ((s lines).lanes[0]).frameOpen = true)
      ∧ ((s 1119).lanes[0]).lineCount < 1120 ∧ 1120 ≤ ((s 1120).lanes[0]).lineCount
      ∧ pendingTake.state = .pending ∧ pendingTake.scope.val = 0
      ∧ (trackScope 3 = pendingTake.scope ∧ ∃ c ∈ pendingTake.latches, c.1 = 3) ∧ (s 1119).outputsConsistent
      ∧ (s 1120).outputsConsistent := by decide +kernel

theorem witness_RouteReadsReport :
    State.reset.resetHeld = false ∧ State.reset.replies.length < 8 := by decide +kernel

/-- A lane that is not LOCKED, and a LOCKED one with its format. -/
theorem witness_BlockReadsReport :
    (State.reset.resetHeld = false ∧ State.reset.replies.length < 8 ∧ (State.reset.lanes[0]).inputState ≠ .locked)
      ∧ (withLane lockedLane).resetHeld = false ∧ (withLane lockedLane).replies.length < 8
      ∧ ((withLane lockedLane).lanes[0]).format ≠ none := by decide +kernel

theorem witness_SourceIsReadAndSet :
    State.reset.resetHeld = false ∧ State.reset.replies.length < 8 := by decide +kernel

/-- Presets 59999 and 60000. -/
theorem witness_ReferenceIsSet :
    State.reset.resetHeld = false ∧ State.reset.replies.length < 8 ∧ (59999 : Word).toNat < 60000
      ∧ 60000 ≤ (60000 : Word).toNat := by decide +kernel

theorem witness_PortIsSet :
    let s := withPort { Port.powerOn with transmit := .running }
    s.resetHeld = false ∧ s.replies.length < 8 := by decide +kernel

theorem witness_CountersAreCleared :
    let s := { State.reset with unanswered := 65535 }
    s.resetHeld = false ∧ s.replies.length < 8 := by decide +kernel

theorem witness_UnitIsReset :
    let s := { withLane lockedLane with take := some pendingTake }
    s.resetHeld = false ∧ s.replies.length < 8 := by decide +kernel

/-- A full queue, and a request whose index is one too large. -/
theorem witness_RoomAndFormComeFirst :
    (requestOf (.readLane 2 9 [8]) = some ⟨2, 0x04, 9, [8]⟩ ∧ State.reset.resetHeld = false
        ∧ State.reset.replies.length < 8 ∧ Request.formed ⟨2, 0x04, 9, [8]⟩ = false)
      ∧ 8 ≤ (List.replicate 8 (shortReply 0)).length := by decide +kernel

/-- No take; an OPEN take; a PENDING take. -/
theorem witness_TakeOpensAndEnds :
    State.reset.resetHeld = false ∧ State.reset.replies.length < 8 ∧ State.reset.take = none
      ∧ ∀ k ∈ [openedTake, pendingTake], { State.reset with take := some k }.take = some k := by decide +kernel

/-- COMMIT TAKE without a take, of another interface, and of the owner of a PENDING take. -/
theorem witness_TakeTestsInOrder :
    let q (i : Iface) : Request := ⟨i, 0x23, 9, []⟩
    (State.reset.resetHeld = false ∧ State.reset.replies.length < 8 ∧ (q 3).formed = true ∧ (q 3).kind = 0x23)
      ∧ (∀ i, requestOf (.commitTake i 9 []) = some (q i))
      ∧ (∀ i kind tag params, Instr.commitTake 0 9 [] ≠ .unknownRequestKind i kind tag params)
      ∧ State.reset.take = none ∧ (q 3).iface ≠ openedTake.owner
      ∧ (q 0).iface = pendingTake.owner ∧ pendingTake.state = .pending :=
  ⟨by decide +kernel, fun _ => rfl, nofun, by decide +kernel⟩

/-- Destinations 192, 16 and 15 on the scope of L0; counts 5 and 0; a candidate of 192 and one twice; an accepted entry. -/
theorem witness_RouteIsLatched :
    let s := { State.reset with take := some openedTake }
    (s.resetHeld = false ∧ s.replies.length < 8 ∧ s.take = some openedTake ∧ openedTake.state = .opened)
      ∧ ([40] : List Word).length = (0x0101 : Word).toNat / 256 % 8
      ∧ (192 ≤ (192 : Word).toNat ∧ (191 : Word).toNat < 192 ∧ (16 : Word).toNat / 16 ≠ openedTake.scope.val
        ∧ (15 : Word).toNat / 16 = openedTake.scope.val)
      ∧ (4 < (List.replicate 5 (0 : Word)).length ∧ (List.replicate 5 (0 : Word)).length = (0x0500 : Word).toNat / 256 % 8)
      ∧ (([] : List Word).length = (0x0001 : Word).toNat / 256 % 8 ∧ (0x0001 : Word).toNat % 2 = 1)
      ∧ ((192 : Word) ∈ ([40, 192] : List Word) ∧ ¬ ([40, 40] : List Word).Nodup)
      ∧ (([40] : List Word) = ([40] : List SourceIx).map (fun c => BitVec.ofNat 16 c.val)
        ∧ ([40] : List SourceIx).Nodup) := by decide +kernel

/-- Another scope; a lane scope; a port scope. -/
theorem witness_PlanIsLatched :
    let s (scope : Iface) := { State.reset with take := some { openedTake with scope := scope } }
    (∀ scope, (s scope).resetHeld = false ∧ (s scope).replies.length < 8
        ∧ (s scope).take = some { openedTake with scope := scope })
      ∧ openedTake.state = .opened ∧ (1 : Iface) ≠ openedTake.scope ∧ (7 : Iface).val < 8 ∧ 8 ≤ (8 : Iface).val := by
  decide +kernel

/-- A LOCKED lane's scope waits and an unlocked lane's does not; a take OPEN, none, an empty stack and a record. -/
theorem witness_CommitAndUndoWaitOrApply :
    let s := { withLane lockedLane with
      take := some openedTake, undo := State.reset.undo.set 0 [⟨[(3, liveEntry)], none⟩] }
    (s.resetHeld = false ∧ s.replies.length < 8 ∧ s.take = some openedTake ∧ openedTake.state = .opened)
      ∧ (∀ n : LaneIx, openedTake.scope = laneScope n → (s.lanes[n]).inputState = .locked)
      ∧ (¬ ∀ n : LaneIx, (1 : Iface) = laneScope n → (s.lanes[n]).inputState = .locked)
      ∧ s.outputsConsistent
      ∧ State.reset.take = none ∧ State.reset.undo[(0 : Iface)] = []
      ∧ s.undo[(0 : Iface)] = ⟨[(3, liveEntry)], none⟩ :: [] ∧ trackScope 3 = 0 := by decide +kernel

/-- An OPEN take on a lane scope and on a port scope, with entries that could be committed. -/
theorem witness_ReadDataSetsBack :
    let s := { withLane lockedLane with take := some openedTake }
    (s.resetHeld = false ∧ s.replies.length < 8 ∧ s.entriesSound ∧ s.take = some openedTake
        ∧ openedTake.state = .opened)
      ∧ (trackScope 15 = openedTake.scope ∧ openedTake.scope = laneScope 0)
      ∧ { openedTake with scope := 8 }.scope = portScope 0 ∧ s.marksSound := by decide +kernel

/-- A state other than reset: a LOCKED lane whose frame closes, a take PENDING on it, a PARKED destination, a full reply
queue. -/
def busyState : State :=
  { withLane { lockedLane with lineCount := 1120, seen := #v[true, false, false, false] } with
    pending := [.frameStart 0 (some .f25)]
    entries := State.reset.entries.set 3 liveEntry
    dests := State.reset.dests.set 3 { LiveRecord.powerOn with state := .parked }
    take := some pendingTake
    replies := List.replicate 8 (shortReply 8) }

/-- For the five statements StepKeeps…: the invariants hold of a state other than reset from which a step goes. -/
theorem witness_StepKeepsInvariants :
    (after (step busyState)).isSome = true ∧ busyState.sourcesSound ∧ busyState.queuesBounded ∧ busyState.entriesSound
      ∧ busyState.takeSound ∧ busyState.recordsFit ∧ busyState.outputsConsistent ∧ busyState.lanesSound
      ∧ busyState.presenceSound ∧ busyState.portsSound ∧ busyState.marksSound := by
  refine ⟨?_, ?_, ?_, ?_, ?_, ?_, ?_, ?_, ?_, ?_, ?_⟩ <;> decide +kernel

end Sys2Proof.Tests
end

section
/-! Facts about indices, tables and the elementary updates of the state that the proofs of this family share. -/

namespace Sys2Proof.Machine

/-! ### Tables -/

/-- A table of four with one value everywhere. -/
@[simp] theorem four_const {α : Type} (a : α) : four (fun _ => a) = Vector.replicate 4 a := by
  ext k hk
  simpa using four_getElem (fun _ => a) ⟨k, hk⟩

theorem modifyAt_eq_set {α : Type} {n : Nat} (v : Vector α n) (i : Fin n) (f : α → α) :
    modifyAt v i f = v.set i.val (f v[i]) i.isLt := rfl

/-- Two changes of one place are one change. -/
@[simp] theorem modifyAt_modifyAt {α : Type} {n : Nat} (v : Vector α n) (i : Fin n) (f g : α → α) :
    modifyAt (modifyAt v i f) i g = modifyAt v i fun a => g (f a) := by
  simp [modifyAt]

/-- What a change of one place leaves as it is stays so everywhere. -/
theorem modifyAt_proj {α β : Type} {n : Nat} (π : α → β) {f : α → α} (hf : ∀ a, π (f a) = π a) (v : Vector α n)
    (i k : Fin n) : π (modifyAt v i f)[k] = π v[k] := by
  rw [modifyAt_getElem]
  split
  · rename_i h
    subst h
    exact hf _
  · rfl

theorem vector_ext_fin {α : Type} {n : Nat} {v w : Vector α n} (h : ∀ k : Fin n, v[k] = w[k]) : v = w :=
  Vector.ext fun k hk => h ⟨k, hk⟩

/-- A table that agrees with another but for one place is that one with its own value put there. -/
theorem eq_set_of_getElem {α : Type} {n : Nat} {v w : Vector α n} (i : Fin n) {a : α} (hi : v[i] = a)
    (h : ∀ k : Fin n, k ≠ i → v[k] = w[k]) : v = w.set i.val a i.isLt := by
  refine vector_ext_fin fun k => ?_
  simp only [Fin.getElem_fin, Vector.getElem_set]
  by_cases hk : i = k
  · subst hk; simpa using hi
  · rw [if_neg (fun e => hk (Fin.ext e))]
    exact h k (Ne.symm hk)

/-! ### One lane or one port changed -/

theorem State.modifyLane_eq_putLane (s : State) (n : LaneIx) (f : Lane → Lane) :
    s.modifyLane n f = s.putLane n (f s.lanes[n]) := rfl

@[simp] theorem State.modifyLane_modifyLane (s : State) (n : LaneIx) (f g : Lane → Lane) :
    (s.modifyLane n f).modifyLane n g = s.modifyLane n fun l => g (f l) := by
  simp [State.modifyLane]

@[simp] theorem State.modifyPort_modifyPort (s : State) (p : PortIx) (f g : Port → Port) :
    (s.modifyPort p f).modifyPort p g = s.modifyPort p fun x => g (f x) := by
  simp [State.modifyPort]

@[simp] theorem State.putLane_self (s : State) (n : LaneIx) : s.putLane n s.lanes[n] = s := by
  simp [State.putLane]

/-! ### Indices (00 Indices) -/

theorem trackPlace_eq_lane_iff (d : Fin 192) (n : LaneIx) : trackPlace d = .lane n ↔ d.val / 16 = n.val := by
  unfold trackPlace
  split
  · simp only [Place.lane.injEq, Fin.ext_iff]
  · simp only [reduceCtorEq, false_iff]
    omega

theorem trackPlace_eq_port_iff (d : Fin 192) (p : PortIx) : trackPlace d = .port p ↔ d.val / 32 = 4 + p.val := by
  unfold trackPlace
  split
  · simp only [reduceCtorEq, false_iff]
    omega
  · simp only [Place.port.injEq, Fin.ext_iff]
    omega

theorem trackGroup_eq {d : Fin 192} {n : LaneIx} {g : GroupIx} (h : d.val / 4 = 4 * n.val + g.val) :
    trackGroup d = g := by
  simp only [trackGroup, Fin.ext_iff]
  omega

theorem laneScope_inj {m n : LaneIx} : laneScope m = laneScope n ↔ m = n := by
  simp [laneScope, Fin.ext_iff]

theorem portScope_ne_laneScope (p : PortIx) (n : LaneIx) : portScope p ≠ laneScope n := by
  simp only [portScope, laneScope, ne_eq, Fin.ext_iff]
  omega

theorem eq_laneScope_iff (i : Iface) (n : LaneIx) : i = laneScope n ↔ i.val = n.val := by
  simp [laneScope, Fin.ext_iff]

theorem eq_portScope_iff (i : Iface) (p : PortIx) : i = portScope p ↔ i.val = 8 + p.val := by
  simp [portScope, Fin.ext_iff]

theorem ifacePlace_eq_lane_iff (i : Iface) (n : LaneIx) : ifacePlace i = .lane n ↔ i = laneScope n := by
  rw [eq_laneScope_iff]
  unfold ifacePlace
  split
  · simp only [Place.lane.injEq, Fin.ext_iff]
  · simp only [reduceCtorEq, false_iff]
    omega

theorem ifacePlace_eq_port_iff (i : Iface) (p : PortIx) : ifacePlace i = .port p ↔ i = portScope p := by
  rw [eq_portScope_iff]
  unfold ifacePlace
  split
  · simp only [reduceCtorEq, false_iff]
    omega
  · simp only [Place.port.injEq, Fin.ext_iff]
    omega

theorem trackScope_eq_laneScope_iff (d : Fin 192) (n : LaneIx) : trackScope d = laneScope n ↔ d.val / 16 = n.val := by
  rw [← trackPlace_eq_lane_iff]
  unfold trackScope
  cases trackPlace d with
  | lane m => simp only [laneScope_inj, Place.lane.injEq]
  | port p => simp only [portScope_ne_laneScope, reduceCtorEq]

/-! ### The clock of a port (R5, R129) -/

/-- A run of samples moves a port's position, its events due and its held samples, and nothing else of it. -/
theorem advanceBy_frame (k : Nat) (x : Port) :
    advanceBy k x = { x with
      position := (advanceBy k x).position
      periodDue := (advanceBy k x).periodDue
      frameDue := (advanceBy k x).frameDue
      heldSamples := (advanceBy k x).heldSamples } := by
  induction k generalizing x with
  | zero => rfl
  | succ k ih =>
    simp only [advanceBy]
    split
    · rfl
    · rw [ih]
      rfl

theorem clockSamples_frame (k : Nat) (x : Port) :
    clockSamples k x = { x with
      position := (clockSamples k x).position
      periodDue := (clockSamples k x).periodDue
      frameDue := (clockSamples k x).frameDue
      heldSamples := (clockSamples k x).heldSamples } :=
  advanceBy_frame (x.heldSamples + k) { x with heldSamples := 0 }

@[simp] theorem clockSamples_running (k : Nat) (x : Port) : (clockSamples k x).running = x.running := by
  rw [clockSamples_frame]

/-! ### Replies (R26) -/

theorem bytes_eq_ofNat (hi lo : Byte) : bytes hi lo = BitVec.ofNat 16 (256 * hi.toNat + lo.toNat) := by
  apply BitVec.eq_of_toNat_eq
  have hlo := lo.isLt
  have hhi := hi.isLt
  rw [bytes, BitVec.toNat_append, ← Nat.shiftLeft_add_eq_or_of_lt hlo, Nat.shiftLeft_eq, BitVec.toNat_ofNat]
  omega

@[simp] theorem addressByte_toNat (u : BitVec 7) : (addressByte u).toNat = u.toNat := by
  have h := u.isLt
  simp only [addressByte, BitVec.zeroExtend, BitVec.toNat_setWidth]
  omega

/-- A queued reply, its payload as the statements write it. -/
theorem queueReply_eq_answer (i : Iface) (status : Status) (tag : Word) (kind : Byte) (data : List Word) (s : State) :
    queueReply i status tag kind data s = s.answer i (statusCode status).toNat tag kind.toNat data := by
  simp [queueReply, State.answer, replyPayload, bytes_eq_ofNat]

theorem purgeReplies_lane (n : LaneIx) (rs : List Reply) :
    purgeReplies (laneScope n) rs = rs.filter fun r => decide (r.iface.val ≠ n.val) := by
  simp only [purgeReplies, ne_eq, eq_laneScope_iff]

theorem countReplies_lane (n : LaneIx) (rs : List Reply) :
    countReplies (laneScope n) rs = rs.countP fun r => decide (r.iface.val = n.val) := by
  simp only [countReplies, eq_laneScope_iff]

theorem oldestReply_lane (n : LaneIx) (rs : List Reply) :
    oldestReply (laneScope n) rs = rs.find? fun r => decide (r.iface.val = n.val) := by
  simp only [oldestReply, eq_laneScope_iff]

theorem dropOldestReply_lane (n : LaneIx) (rs : List Reply) :
    dropOldestReply (laneScope n) rs = rs.eraseP fun r => decide (r.iface.val = n.val) := by
  simp only [dropOldestReply, eq_laneScope_iff]

end Sys2Proof.Machine
end

section
/-! Power-on reset, link signal, the bypass of unlocked lanes, RESET UNIT: O4, O5, O6, O10, O47, O60. -/

namespace Sys2Proof.Machine

/-! ### Power-on reset (R17, R172, R173) -/

/-- While power-on reset is held a change of the pins of one lane is a change of pins everywhere. -/
theorem putLane_changes_pins (s : State) (n : LaneIx) (on : Bool) (out : List Word) :
    let t := s.putLane n { s.lanes[n] with linkSignal := on, linkOut := out }
    t = { s with lanes := t.lanes }
      ∧ ∀ m : LaneIx, t.lanes[m] =
        { s.lanes[m] with linkSignal := (t.lanes[m]).linkSignal, linkOut := (t.lanes[m]).linkOut } := by
  refine ⟨rfl, fun m => ?_⟩
  simp only [State.putLane, Fin.getElem_fin, Vector.getElem_set]
  split
  · rename_i h
    simp only [h]
  · rfl

/-- Settles O4: by command; every one but the five that name link pins or power-on reset is `powered`. -/
theorem powerOnResetHoldsBypass : Obligations.PowerOnResetHoldsBypass := by
  intro s
  have bypass (hs : s.resetHeld = true) (n : LaneIx) (blanking : List Word) :
      exec (.inputCarriageLine n blanking) s =
        .next (if (s.lanes[n]).linkSignal then s.putLane n { s.lanes[n] with linkOut := blanking } else s) := by
    simp only [exec, execInputCarriageLine, hs, if_true]
    rfl
  refine ⟨rfl, fun hs n blanking hsig => by rw [bypass hs, if_pos hsig], fun hs c hc => ?_⟩
  cases c with
  | powerOnResetAssert =>
    refine ⟨s, ?_, rfl, fun _ => rfl⟩
    simp only [exec, execPowerOnResetAssert, ← hs]
  | powerOnResetRelease u role lane => exact absurd rfl (hc u role lane)
  | linkSignalAppears n =>
    refine ⟨_, ?_, putLane_changes_pins s n true (s.lanes[n]).linkOut⟩
    simp only [exec, execLinkSignalAppears, hs, if_true]
    rfl
  | linkSignalLost n =>
    refine ⟨_, ?_, putLane_changes_pins s n false []⟩
    simp only [exec, execLinkSignalLost, hs, if_true, setSignal, State.modifyLane_modifyLane]
    rfl
  | inputCarriageLine n blanking =>
    refine ⟨_, bypass hs n blanking, ?_⟩
    split
    · exact putLane_changes_pins s n (s.lanes[n]).linkSignal blanking
    · exact ⟨rfl, fun _ => rfl⟩
  | portWordReceived p w => exact ⟨s, powered_held hs fun s => s.modifyPort p (receiveWord w), rfl, fun _ => rfl⟩
  | _ =>
    refine ⟨s, ?_, rfl, fun _ => rfl⟩
    rw [exec]
    exact powered_held hs _

/-- Settles O5: field by field from the power-on values, with the two cases of the link pin. -/
theorem releaseReachesPowerOn : Obligations.ReleaseReachesPowerOn := by
  intro u role lane s
  refine ⟨_, rfl, rfl, rfl, rfl, rfl, fun i => ?_, rfl, rfl, rfl, fun n => ?_, fun i => ?_, fun d => ?_, fun d => ?_,
    fun p => ?_⟩
  case refine_2 =>
    simp only [releaseReset, updateAll_getElem_fin, releaseLane]
    cases (s.lanes[n]).linkSignal <;> exact ⟨rfl, rfl, rfl, rfl, rfl, rfl, rfl, rfl, rfl⟩
  all_goals simp [releaseReset, State.powerOn]
  · rfl
  · rfl
  · rfl
  · rfl

/-! ### Link signal and bypass of a lane that is not LOCKED (R1, R2, R9) -/

/-- A signal that appears, outside power-on reset (R1). -/
theorem exec_linkSignalAppears {s : State} (hs : s.resetHeld = false) (n : LaneIx) :
    exec (.linkSignalAppears n) s = .next (s.putLane n (acquireLane { s.lanes[n] with linkSignal := true })) := by
  simp only [exec, execLinkSignalAppears, hs, Bool.false_eq_true, if_false, setSignal, State.modifyLane_modifyLane]
  rfl

/-- A signal that is lost, outside power-on reset (R1). -/
theorem exec_linkSignalLost {s : State} (hs : s.resetHeld = false) (n : LaneIx) :
    exec (.linkSignalLost n) s = .next (signalLost n (setSignal n false s)) := by
  simp [exec, execLinkSignalLost, hs]

/-- A carriage line outside power-on reset (R2, R9, R31). -/
theorem exec_inputCarriageLine {s : State} (hs : s.resetHeld = false) (n : LaneIx) (blanking : List Word) :
    exec (.inputCarriageLine n blanking) s = .next (carriageLine n blanking s) := by
  simp [exec, execInputCarriageLine, hs]

@[simp] theorem setSignal_lane (n : LaneIx) (on : Bool) (s : State) :
    (setSignal n on s).lanes[n] = { s.lanes[n] with linkSignal := on } := by
  simp only [setSignal, State.modifyLane_lanes, modifyAt_getElem_self]

theorem acquireLane_noSignal {l : Lane} (h : l.inputState = .noSignal) :
    acquireLane l = { l with inputState := .acquiring, format := none, frameOpen := false, lineCount := 0 } :=
  if_pos h

theorem acquireLane_of_ne {l : Lane} (h : l.inputState ≠ .noSignal) : acquireLane l = l :=
  if_neg h

theorem signalLost_noSignal {n : LaneIx} {s : State} (h : (s.lanes[n]).inputState = .noSignal) :
    signalLost n s = s := by
  simp only [signalLost, h]

theorem signalLost_acquiring {n : LaneIx} {s : State} (h : (s.lanes[n]).inputState = .acquiring) :
    signalLost n s = s.modifyLane n silenceLane := by
  simp only [signalLost, h]

theorem signalLost_locked {n : LaneIx} {s : State} (h : (s.lanes[n]).inputState = .locked) :
    signalLost n s = (laneLoss n .noSignal none s).modifyLane n silenceLane := by
  simp only [signalLost, h]

theorem carriageLine_noSignal {n : LaneIx} {s : State} (h : (s.lanes[n]).inputState = .noSignal)
    (blanking : List Word) : carriageLine n blanking s = s :=
  if_pos h

theorem carriageLine_noFrame {n : LaneIx} {s : State} (h : (s.lanes[n]).inputState ≠ .noSignal)
    (hf : (s.lanes[n]).frameOpen = false) (blanking : List Word) :
    carriageLine n blanking s = bypassLine n blanking s := by
  simp [-Fin.getElem_fin, carriageLine, h, hf]

theorem carriageLine_counted {n : LaneIx} {s : State} (h : (s.lanes[n]).inputState ≠ .noSignal)
    (hf : (s.lanes[n]).frameOpen = true) (hl : (s.lanes[n]).lineCount < 1120) (blanking : List Word) :
    carriageLine n blanking s = countedLine n blanking s := by
  simp [-Fin.getElem_fin, carriageLine, h, hf, hl]

theorem carriageLine_long {n : LaneIx} {s : State} (h : (s.lanes[n]).inputState ≠ .noSignal)
    (hf : (s.lanes[n]).frameOpen = true) (hl : 1120 ≤ (s.lanes[n]).lineCount) (blanking : List Word) :
    carriageLine n blanking s = bypassLine n blanking (longFrame n s) := by
  simp [-Fin.getElem_fin, carriageLine, h, hf, not_lt.2 hl]

/-- A line of a lane that is not LOCKED is counted and passes (R2, R9). -/
theorem countedLine_unlocked {n : LaneIx} {s : State} (h : (s.lanes[n]).inputState ≠ .locked)
    (blanking : List Word) :
    countedLine n blanking s =
      s.putLane n { s.lanes[n] with lineCount := (s.lanes[n]).lineCount + 1, linkOut := blanking } := by
  simp only [countedLine, State.modifyLane_lanes, modifyAt_getElem_self, if_neg h, bypassLine,
    State.modifyLane_modifyLane]
  rfl

/-- A 1121st line of a lane that is not LOCKED closes its frame as unrecognised (R2, R3). -/
theorem longFrame_unlocked {n : LaneIx} {s : State} (h : (s.lanes[n]).inputState ≠ .locked) :
    longFrame n s = s.modifyLane n fun l => { l with format := none, frameOpen := false, lineCount := 0 } := by
  unfold longFrame
  split
  · contradiction
  · simp only [closeFrame, setCandidate, State.modifyLane_modifyLane]

/-- Settles O6: by the lane's input state. -/
theorem linkSignalMovesUnlockedLane : Obligations.LinkSignalMovesUnlockedLane := by
  intro n s hs
  rw [exec_linkSignalAppears hs, exec_linkSignalLost hs]
  refine ⟨fun h => ?_, fun h => ?_, fun h => ?_⟩
  · refine ⟨congrArg (fun l => Host.Outcome.next (s.putLane n l)) (acquireLane_noSignal h), ?_⟩
    rw [signalLost_noSignal (by rw [setSignal_lane]; exact h)]
    rfl
  · refine ⟨congrArg (fun l => Host.Outcome.next (s.putLane n l)) (acquireLane_of_ne ?_), ?_⟩
    · simp [-Fin.getElem_fin, h]
    · rw [signalLost_acquiring (by rw [setSignal_lane]; exact h), setSignal, State.modifyLane_modifyLane]
      rfl
  · refine congrArg (fun l => Host.Outcome.next (s.putLane n l)) (acquireLane_of_ne ?_)
    simp [-Fin.getElem_fin, h]

/-- Settles O10: by the lane's input state, its open frame and its line count. -/
theorem unlockedLanePassesLines : Obligations.UnlockedLanePassesLines := by
  intro n blanking s hs
  rw [exec_inputCarriageLine hs]
  refine ⟨fun h => by rw [carriageLine_noSignal h], fun h hf => ?_, fun h hf hl => ?_, fun h hf hl => ?_⟩
  all_goals
    have hsig : (s.lanes[n]).inputState ≠ .noSignal := by simp [-Fin.getElem_fin, h]
    have hlock : (s.lanes[n]).inputState ≠ .locked := by simp [-Fin.getElem_fin, h]
  · rw [carriageLine_noFrame hsig hf]
    rfl
  · rw [carriageLine_counted hsig hf hl, countedLine_unlocked hlock]
  · rw [carriageLine_long hsig hf hl, longFrame_unlocked hlock, bypassLine, State.modifyLane_modifyLane]
    rfl

/-! ### RESET UNIT (R170) -/

/-- Settles O47: block by block. -/
theorem unitIsReset : Obligations.UnitIsReset := by
  intro i tag s hs hroom
  refine ⟨resetBlocks s, ?_, rfl, fun scope => ?_, fun n => ?_, fun k => ?_, fun d => ?_, fun p => ?_⟩
  · have h : exec (.resetUnit i tag []) s = powered s (resetUnit i tag []) := rfl
    rw [h, powered_on hs, resetUnit, withoutParams_nil hroom, queueReply_eq_answer]
    rfl
  all_goals simp only [resetBlocks, updateAll_getElem_fin]
  · simp
  all_goals rfl

/-! ### The reset state -/

theorem reset_lanes (n : LaneIx) : State.reset.lanes[n] = Lane.powerOn := by
  simp [State.reset, State.powerOn]

theorem reset_sources (i : SourceIx) : State.reset.sources[i] = Source.powerOn := by
  simp [State.reset, State.powerOn]

theorem reset_entries (d : DestIx) : State.reset.entries[d] = RouteEntry.powerOn := by
  simp [State.reset, State.powerOn]

theorem reset_dests (d : DestIx) : State.reset.dests[d] = LiveRecord.powerOn := by
  simp [State.reset, State.powerOn]

theorem reset_ports (p : PortIx) : State.reset.ports[p] = Port.powerOn := by
  simp [State.reset, State.powerOn]

theorem reset_undo (i : Iface) : State.reset.undo[i] = [] := by
  simp [State.reset, State.powerOn]

/-- No output side runs right after reset. -/
theorem reset_outputRuns (d : DestIx) : outputRuns State.reset d = false := by
  unfold outputRuns
  cases trackPlace d with
  | lane n => simp [reset_lanes n, -Fin.getElem_fin]; simp [Lane.powerOn]
  | port p => simp [reset_ports p, -Fin.getElem_fin]; simp [Port.powerOn]

theorem reset_queuesBounded : State.reset.queuesBounded := by
  refine ⟨fun n g => ?_, fun p => ?_, fun i => ?_, by decide⟩
  · rw [reset_lanes]; revert g; decide
  · rw [reset_ports]; decide
  · rw [reset_undo]; decide

theorem reset_entriesSound : State.reset.entriesSound := by
  refine ⟨fun d => ?_, fun n => ?_, fun t h => ?_, fun i => ?_⟩
  · rw [reset_entries]; decide
  · rw [reset_lanes]; decide
  · cases h
  · rw [reset_undo]; exact fun u h => by cases h

theorem reset_outputsConsistent : State.reset.outputsConsistent := by
  refine ⟨fun n g => ?_, fun p c => ?_, fun d => ?_⟩
  · rw [reset_lanes]; revert g; decide
  · rw [reset_ports]; revert c; decide
  · rw [reset_outputRuns, reset_dests]; decide

theorem reset_lanesSound : State.reset.lanesSound := by
  intro n
  rw [reset_lanes]
  decide

theorem reset_presenceSound : State.reset.presenceSound := by
  refine ⟨fun n g t => ?_, fun p c t => ?_⟩ <;> rw [reset_sources] <;> exact fun h => by cases h

theorem reset_portsSound : State.reset.portsSound := by
  intro p
  rw [reset_ports]
  exact ⟨by decide, rfl⟩

theorem reset_marksSound : State.reset.marksSound := by
  simp [State.marksSound, State.reset, State.powerOn, Reference.powerOn]

/-- Settles O60: each invariant at the power-on values. -/
theorem resetMeetsInvariants : Obligations.ResetMeetsInvariants :=
  ⟨fun i => by rw [reset_sources]; decide, reset_queuesBounded, reset_entriesSound, fun t h => (by cases h),
    fun d => by rw [reset_dests, reset_entries]; decide, reset_outputsConsistent, reset_lanesSound,
    reset_presenceSound, reset_portsSound, reset_marksSound⟩

end Sys2Proof.Machine
end

section
/-! Output sides that start and stop, and a take applied: what each leaves of the records and blocks it reaches. -/

namespace Sys2Proof.Machine

/-! ### Records that stop (R83 to R85) -/

theorem stopRecord_still {r : LiveRecord} (ha : r.state ≠ .active) (hf : r.state ≠ .filling) (hr : r.fade = 32) :
    stopRecord r = r := by
  unfold stopRecord
  split
  · contradiction
  · contradiction
  · rw [if_neg (by omega)]
  · rfl

theorem stopRecord_state (r : LiveRecord) : (stopRecord r).state = .idle ∨ (stopRecord r).state = .parked := by
  unfold stopRecord
  split
  · exact .inr rfl
  · exact .inr rfl
  · rename_i h
    split
    · exact .inl rfl
    · exact .inl h
  · rename_i h
    exact .inr h

theorem stopRecord_stoppedFrom (r : LiveRecord) : (stopRecord r).stoppedFrom r := by
  cases h : r.state with
  | idle =>
    by_cases hf : r.fade < 32
    · simp [LiveRecord.stoppedFrom, stopRecord, h, hf, idleSilent, LiveRecord.powerOn]
    · simp [LiveRecord.stoppedFrom, stopRecord, h, hf]
  | _ => simp [LiveRecord.stoppedFrom, stopRecord, h, park, LiveRecord.powerOn]

@[simp] theorem stopRecord_stopRecord (r : LiveRecord) : stopRecord (stopRecord r) = stopRecord r := by
  cases h : r.state with
  | idle => by_cases hf : r.fade < 32 <;> simp [stopRecord, h, hf, idleSilent, LiveRecord.powerOn]
  | _ => simp [stopRecord, h, park, LiveRecord.powerOn]

/-- A record that has stopped is left as it is by the check, while its output side does not run (R73). -/
theorem check_stopRecord (sources : Vector Source 192) (e : RouteEntry) (r : LiveRecord) :
    check sources e false (stopRecord r) = stopRecord r := by
  rcases stopRecord_state r with h | h <;> simp [check, h]

/-! ### Records that act on a new entry (R86 to R88) -/

@[simp] theorem lapReseat_state (sources : Vector Source 192) (e : RouteEntry) (i : SourceIx) (r : LiveRecord) :
    (lapReseat sources e i r).state = r.state := rfl

@[simp] theorem realign_state (x : Source) (delay : Nat) (st : SourceStream) (gain : Word) (invert mute : Bool)
    (r : LiveRecord) : (realign x delay st gain invert mute r).state = r.state := rfl

@[simp] theorem crossfade_state (r : LiveRecord) (x : Stream) : (crossfade r x).state = r.state := rfl

@[simp] theorem reseat_state (sources : Vector Source 192) (e : RouteEntry) (a : Nat) (i : SourceIx) (r : LiveRecord) :
    (reseat sources e a i r).state = .active := rfl

@[simp] theorem fillFaded_state (e : RouteEntry) (r : LiveRecord) : (fillFaded e r).state = .filling := rfl

@[simp] theorem fillUnfaded_state (e : RouteEntry) (r : LiveRecord) : (fillUnfaded e r).state = .filling := rfl

theorem start_state (sources : Vector Source 192) (e : RouteEntry) (r : LiveRecord) :
    (start sources e r).state = .active ∨ (start sources e r).state = .filling := by
  unfold start
  split
  · exact .inl rfl
  · split
    · exact .inr ‹_›
    · split <;> exact .inr rfl

theorem enterFilling_state (sources : Vector Source 192) (e : RouteEntry) {r : LiveRecord} (h : r.state = .filling) :
    (enterFilling sources e r).state = .active ∨ (enterFilling sources e r).state = .filling := by
  unfold enterFilling
  split
  · exact .inl rfl
  · split
    · exact .inr h
    · exact .inr h
    · exact .inr rfl

theorem keepPosition_state (sources : Vector Source 192) (e : RouteEntry) (st : SourceStream) (r : LiveRecord) :
    (keepPosition sources e st r).state = r.state := by
  unfold keepPosition
  dsimp only
  split
  · rfl
  · split
    · split <;> rfl
    · rfl

theorem enterActive_state (sources : Vector Source 192) (oldDelay : Nat) (e : RouteEntry) {r : LiveRecord}
    (h : r.state = .active) :
    (enterActive sources oldDelay e r).state = .active ∨ (enterActive sources oldDelay e r).state = .filling := by
  unfold enterActive
  split
  · exact .inr rfl
  · split
    · split
      · exact .inl ((keepPosition_state ..).trans h)
      · exact .inl rfl
    · exact .inl rfl

/-- On an enabled entry a record whose output side runs becomes ACTIVE or FILLING (R86, R87). -/
theorem enterEntry_running_state {e : RouteEntry} (he : e.enabled = true) (sources : Vector Source 192)
    (oldDelay : Nat) (r : LiveRecord) :
    (enterEntry sources oldDelay e true r).state = .active ∨ (enterEntry sources oldDelay e true r).state = .filling := by
  cases hr : r.state with
  | idle => rw [enterEntry_still he (.inl hr), if_pos rfl]; exact start_state ..
  | parked => rw [enterEntry_still he (.inr hr), if_pos rfl]; exact start_state ..
  | filling => rw [enterEntry_filling he hr]; exact enterFilling_state sources e hr
  | active => rw [enterEntry_active he hr]; exact enterActive_state sources oldDelay e hr

/-- On an enabled entry a still record whose output side does not run parks (R86). -/
theorem enterEntry_stopped_state {e : RouteEntry} (he : e.enabled = true) {r : LiveRecord}
    (hr : r.state = .idle ∨ r.state = .parked) (sources : Vector Source 192) (oldDelay : Nat) :
    (enterEntry sources oldDelay e false r).state = .parked := by
  rw [enterEntry_still he hr]
  rfl

/-- On a disabled entry a record becomes IDLE (R88). -/
theorem enterEntry_disabled_state {e : RouteEntry} (he : e.enabled = false) (sources : Vector Source 192)
    (oldDelay : Nat) (running : Bool) (r : LiveRecord) : (enterEntry sources oldDelay e running r).state = .idle := by
  rw [enterEntry_disabled he]
  unfold enterDisabled
  split <;> rfl

/-! ### Latches (R152, R159) -/

theorem latchedEntry_eq_find (latches : List (DestIx × RouteEntry)) (d : DestIx) :
    latchedEntry latches d = (latches.find? fun c => decide (c.1 = d)).map Prod.snd := by
  induction latches with
  | nil => rfl
  | cons c rest ih =>
    obtain ⟨i, e⟩ := c
    by_cases h : i = d <;> simp [latchedEntry, h, ih]

theorem latchedEntry_eq_none_iff (latches : List (DestIx × RouteEntry)) (d : DestIx) :
    latchedEntry latches d = none ↔ ∀ c ∈ latches, c.1 ≠ d := by
  rw [latchedEntry_eq_find, Option.map_eq_none_iff, List.find?_eq_none]
  simp only [decide_eq_true_eq, ne_eq]

/-- A latched entry of a destination that has one. -/
theorem latchedEntry_of_mem {latches : List (DestIx × RouteEntry)} {d : DestIx} (h : ∃ c ∈ latches, c.1 = d) :
    ∃ e, latchedEntry latches d = some e := by
  rw [← Option.ne_none_iff_exists', ne_eq, latchedEntry_eq_none_iff]
  obtain ⟨c, hc, hd⟩ := h
  exact fun hall => hall c hc hd

/-- A latched entry stands in the list with its destination. -/
theorem latchedEntry_mem {latches : List (DestIx × RouteEntry)} {d : DestIx} {e : RouteEntry}
    (h : latchedEntry latches d = some e) : (d, e) ∈ latches := by
  rw [latchedEntry_eq_find, Option.map_eq_some_iff] at h
  obtain ⟨⟨c, e'⟩, hc, rfl⟩ := h
  have hd := List.find?_some hc
  simp only [decide_eq_true_eq] at hd
  subst hd
  exact List.mem_of_find?_eq_some hc

theorem entryFor_eq (k : Take) (d : DestIx) (e : RouteEntry) :
    k.entryFor d e = (latchedEntry k.latches d).getD e := by
  rw [Take.entryFor, latchedEntry_eq_find]

/-! ### Groups and channels settle (R83, R84) -/

/-- Whether an output side runs is read from the running groups and channels alone. -/
theorem outputRuns_congr_running {s t : State} (hl : ∀ m : LaneIx, (t.lanes[m]).running = (s.lanes[m]).running)
    (hp : ∀ p : PortIx, (t.ports[p]).running = (s.ports[p]).running) (d : DestIx) : outputRuns t d = outputRuns s d := by
  unfold outputRuns
  cases trackPlace d with
  | lane m => simp only [hl]
  | port p => simp only [hp]

theorem outputRuns_congr {s t : State} (hl : t.lanes = s.lanes) (hp : t.ports = s.ports) (d : DestIx) :
    outputRuns t d = outputRuns s d :=
  outputRuns_congr_running (fun m => by rw [hl]) (fun p => by rw [hp]) d

theorem outputRuns_lane {d : DestIx} {n : LaneIx} (h : trackPlace d = .lane n) (s : State) :
    outputRuns s d = (s.lanes[n]).running[trackGroup d] := by
  simp only [outputRuns, h]

theorem outputRuns_port {d : DestIx} {p : PortIx} (h : trackPlace d = .port p) (s : State) :
    outputRuns s d = (s.ports[p]).running[trackChannel d] := by
  simp only [outputRuns, h]

/-- A lane whose groups have settled: those in an EMBED mode run while it is LOCKED (R83). -/
def settledLane (l : Lane) : Lane :=
  { l with running := four fun g => decide (l.inputState = .locked) && embeds l.plan.modes[g] }

/-- A port whose channels have settled: those its plan enables run while transmit is RUNNING (R84). -/
def settledPort (x : Port) : Port :=
  { x with running := four fun c => decide (x.transmit = .running) && x.plan.channels[c] }

/-- A record of a scope whose output sides have settled as they stand in `t`: stopped where its own does not run. -/
def settledRecord (scope : Iface) (t : State) (d : DestIx) (r : LiveRecord) : LiveRecord :=
  if trackScope d = scope ∧ outputRuns t d = false then stopRecord r else r

theorem settleLane_eq (n : LaneIx) (s : State) :
    settleLane n s = { s with
      lanes := modifyAt s.lanes n settledLane
      dests := (settleLane n s).dests } := rfl

theorem settlePort_eq (p : PortIx) (s : State) :
    settlePort p s = { s with
      ports := modifyAt s.ports p settledPort
      dests := (settlePort p s).dests } := rfl

theorem setChannels_dests (p : PortIx) (runs : ChanIx → Bool) (s : State) (d : DestIx) :
    (setChannels p runs s).dests[d] =
      if trackPlace d = .port p ∧ runs (trackChannel d) = false then stopRecord s.dests[d] else s.dests[d] := by
  simp only [setChannels, State.modifyPort_dests, stopDests, State.updateDests_dests, updateAll_getElem_fin]
  by_cases h : trackPlace d = .port p <;> by_cases hr : runs (trackChannel d) = true <;> simp [h, hr]

theorem trackPlace_eq_port_of_scope {d : DestIx} {p : PortIx} (h : trackScope d = portScope p) :
    trackPlace d = .port p := by
  unfold trackScope at h
  cases hd : trackPlace d with
  | lane m =>
    rw [hd] at h
    exact absurd h.symm (portScope_ne_laneScope p m)
  | port q =>
    rw [hd] at h
    simp only [portScope, Fin.ext_iff] at h
    rw [Fin.ext (show q.val = p.val by omega)]

theorem trackPlace_eq_lane_of_scope {d : DestIx} {n : LaneIx} (h : trackScope d = laneScope n) :
    trackPlace d = .lane n := by
  rwa [trackPlace_eq_lane_iff, ← trackScope_eq_laneScope_iff]

/-- Every scope is a lane's or a port's. -/
theorem scope_cases (i : Iface) : (∃ n, i = laneScope n) ∨ ∃ p, i = portScope p := by
  cases h : ifacePlace i with
  | lane n => exact .inl ⟨n, (ifacePlace_eq_lane_iff i n).1 h⟩
  | port p => exact .inr ⟨p, (ifacePlace_eq_port_iff i p).1 h⟩

@[simp] theorem settleScope_laneScope (n : LaneIx) (s : State) : settleScope (laneScope n) s = settleLane n s := by
  simp only [settleScope, ifacePlace_laneScope]

@[simp] theorem settleScope_portScope (p : PortIx) (s : State) : settleScope (portScope p) s = settlePort p s := by
  simp only [settleScope, ifacePlace_portScope]

/-- Settling a scope changes its running groups or channels and the records that stop, and nothing else. -/
theorem settleScope_eq (scope : Iface) (s : State) :
    settleScope scope s = { s with
      lanes := (settleScope scope s).lanes
      ports := (settleScope scope s).ports
      dests := (settleScope scope s).dests } := by
  rcases scope_cases scope with ⟨n, rfl⟩ | ⟨p, rfl⟩
  · rw [settleScope_laneScope]; rfl
  · rw [settleScope_portScope]; rfl

theorem settleScope_dests (scope : Iface) (s : State) (d : DestIx) :
    (settleScope scope s).dests[d] = settledRecord scope (settleScope scope s) d s.dests[d] := by
  unfold settledRecord
  rcases scope_cases scope with ⟨n, rfl⟩ | ⟨p, rfl⟩
  · rw [settleScope_laneScope]
    by_cases h : trackScope d = laneScope n
    · have hp := trackPlace_eq_lane_of_scope h
      rw [outputRuns_lane hp, settleLane, setGroups_running, setGroups_dests]
      simp only [h, hp, true_and]
    · have hp : trackPlace d ≠ .lane n := by rwa [ne_eq, trackPlace_eq_lane_iff, ← trackScope_eq_laneScope_iff]
      rw [settleLane, setGroups_dests, if_neg (fun e => hp e.1), if_neg (fun e => h e.1)]
  · rw [settleScope_portScope]
    by_cases h : trackScope d = portScope p
    · have hp := trackPlace_eq_port_of_scope h
      rw [outputRuns_port hp, settlePort, setChannels_running, setChannels_dests]
      simp only [h, hp, true_and]
    · have hp : trackPlace d ≠ .port p := fun e => h (by simp only [trackScope, e])
      rw [settlePort, setChannels_dests, if_neg (fun e => hp e.1), if_neg (fun e => h e.1)]

end Sys2Proof.Machine
end

section
/-! A take applied (R157 to R160): the state it leaves, field by field, and what the statements say of it. -/

namespace Sys2Proof.Machine

/-! ### Application, field by field (R159) -/

/-- A lane with a take's plan put in place of its own, if the take latched a lane plan (R11). -/
def plannedLane (plan : Option ScopePlan) (l : Lane) : Lane :=
  match plan with
  | some (.lane new) => replaceLanePlan new l
  | _ => l

/-- A port with a take's plan put in place of its own, if the take latched a port plan (R130, R136). -/
def plannedPort (s : State) (plan : Option ScopePlan) (x : Port) : Port :=
  match plan with
  | some (.port new) => replacePortPlan s new x
  | _ => x

/-- The state in which a take's latched entries are set in motion: its plan in place and its scope settled (R159). -/
def plannedState (t : Take) (s : State) : State :=
  settleScope t.scope (replacePlan t s)

theorem replacePlan_lane {t : Take} {n : LaneIx} (h : t.scope = laneScope n) (s : State) :
    replacePlan t s = s.modifyLane n (plannedLane t.plan) := by
  have hid : s.modifyLane n (fun l => l) = s := State.putLane_self s n
  cases hp : t.plan with
  | none => simp only [replacePlan, h, hp, ifacePlace_laneScope]; exact hid.symm
  | some plan => cases plan <;> simp only [replacePlan, h, hp, ifacePlace_laneScope] <;> [rfl; exact hid.symm]

theorem replacePlan_port {t : Take} {p : PortIx} (h : t.scope = portScope p) (s : State) :
    replacePlan t s = s.modifyPort p (plannedPort s t.plan) := by
  have hid : s.modifyPort p (fun x => x) = s := by simp [State.modifyPort, modifyAt]
  cases hp : t.plan with
  | none => simp only [replacePlan, h, hp, ifacePlace_portScope]; exact hid.symm
  | some plan => cases plan <;> simp only [replacePlan, h, hp, ifacePlace_portScope] <;> [exact hid.symm; rfl]

theorem plannedState_lane {t : Take} {n : LaneIx} (h : t.scope = laneScope n) (s : State) :
    plannedState t s = settleLane n (s.modifyLane n (plannedLane t.plan)) := by
  rw [plannedState, replacePlan_lane h, h, settleScope_laneScope]

theorem plannedState_port {t : Take} {p : PortIx} (h : t.scope = portScope p) (s : State) :
    plannedState t s = settlePort p (s.modifyPort p (plannedPort s t.plan)) := by
  rw [plannedState, replacePlan_port h, h, settleScope_portScope]

/-- A plan put in place and a scope settled change lanes, ports and live records, and nothing else. -/
theorem plannedState_eq (t : Take) (s : State) :
    plannedState t s = { s with
      lanes := (plannedState t s).lanes
      ports := (plannedState t s).ports
      dests := (plannedState t s).dests } := by
  rcases scope_cases t.scope with ⟨n, h⟩ | ⟨p, h⟩
  · rw [plannedState_lane h]; rfl
  · rw [plannedState_port h]; rfl

/-- The undo stacks alone are changed by the record pushed for a take (R158). -/
theorem pushUndo_eq (t : Take) (s : State) : pushUndo t s = { s with undo := (pushUndo t s).undo } := by
  unfold pushUndo
  split <;> rfl

/-- The undo stacks play no part in what an application does to lanes, ports and records. -/
theorem settle_pushUndo (t : Take) (s : State) :
    settleScope t.scope (replacePlan t (pushUndo t s)) = { plannedState t s with undo := (pushUndo t s).undo } := by
  rw [pushUndo_eq]
  rcases scope_cases t.scope with ⟨n, h⟩ | ⟨p, h⟩
  · rw [plannedState_lane h, replacePlan_lane h, h, settleScope_laneScope]; rfl
  · rw [plannedState_port h, replacePlan_port h, h, settleScope_portScope]; rfl

/-- The state in which a take's APPLIED reply is queued: its plan, its settled scope and its entries in place, the take gone,
its undo record pushed (R159). -/
def enteredState (t : Take) (s : State) : State :=
  { replaceEntries t.latches { plannedState t s with undo := (pushUndo t s).undo } with take := none }

theorem applyTake_eq_reply (lost : Option LaneIx) (t : Take) (s : State) :
    applyTake lost t s = replyApplied lost t (enteredState t s) := by
  simp only [applyTake, settle_pushUndo, enteredState]

theorem enteredState_eq (t : Take) (s : State) :
    enteredState t s = { s with
      lanes := (plannedState t s).lanes
      ports := (plannedState t s).ports
      entries := updateAll s.entries fun d e => (latchedEntry t.latches d).getD e
      dests := (replaceEntries t.latches (plannedState t s)).dests
      take := none
      undo := (pushUndo t s).undo } := by
  rw [enteredState, plannedState_eq]
  rfl

/-- The APPLIED reply, or its drop, changes the reply queue and the dropped replies counter alone (R160). -/
theorem replyApplied_eq (lost : Option LaneIx) (t : Take) (s : State) :
    replyApplied lost t s = { s with
      replies := (replyApplied lost t s).replies
      droppedApplied := (replyApplied lost t s).droppedApplied } := by
  unfold replyApplied
  split <;> rfl

/-- What an application changes: lanes and ports as the plan and the settled scope leave them, entries, records, undo stacks,
replies, and the take is gone. -/
theorem applyTake_eq (lost : Option LaneIx) (t : Take) (s : State) :
    applyTake lost t s = { s with
      lanes := (plannedState t s).lanes
      ports := (plannedState t s).ports
      entries := updateAll s.entries fun d e => (latchedEntry t.latches d).getD e
      dests := (replaceEntries t.latches (plannedState t s)).dests
      take := none
      undo := (pushUndo t s).undo
      replies := (applyTake lost t s).replies
      droppedApplied := (applyTake lost t s).droppedApplied } := by
  rw [applyTake_eq_reply, replyApplied_eq, enteredState_eq]

section
variable (lost : Option LaneIx) (t : Take) (s : State)

@[simp] theorem applyTake_pending : (applyTake lost t s).pending = s.pending := by rw [applyTake_eq]
@[simp] theorem applyTake_resetHeld : (applyTake lost t s).resetHeld = s.resetHeld := by rw [applyTake_eq]
@[simp] theorem applyTake_sources : (applyTake lost t s).sources = s.sources := by rw [applyTake_eq]
@[simp] theorem applyTake_ref : (applyTake lost t s).ref = s.ref := by rw [applyTake_eq]
@[simp] theorem applyTake_take : (applyTake lost t s).take = none := by rw [applyTake_eq]
@[simp] theorem applyTake_straps : (applyTake lost t s).straps = s.straps := by rw [applyTake_eq]
@[simp] theorem applyTake_unanswered : (applyTake lost t s).unanswered = s.unanswered := by rw [applyTake_eq]
theorem applyTake_undo : (applyTake lost t s).undo = (pushUndo t s).undo := by rw [applyTake_eq]
theorem applyTake_lanes : (applyTake lost t s).lanes = (plannedState t s).lanes := by rw [applyTake_eq]
theorem applyTake_ports : (applyTake lost t s).ports = (plannedState t s).ports := by rw [applyTake_eq]

theorem applyTake_entries (d : DestIx) :
    (applyTake lost t s).entries[d] = (latchedEntry t.latches d).getD s.entries[d] := by
  rw [applyTake_eq]
  exact updateAll_getElem_fin ..

theorem applyTake_outputRuns (d : DestIx) : outputRuns (applyTake lost t s) d = outputRuns (plannedState t s) d :=
  outputRuns_congr (applyTake_lanes lost t s) (applyTake_ports lost t s) d

/-- A destination's record after an application, before it acts on a latched entry (R83, R84). -/
theorem plannedState_dests (d : DestIx) :
    (plannedState t s).dests[d] = settledRecord t.scope (applyTake lost t s) d s.dests[d] := by
  have h : (replacePlan t s).dests = s.dests := by
    rcases scope_cases t.scope with ⟨n, h⟩ | ⟨p, h⟩
    · rw [replacePlan_lane h]; rfl
    · rw [replacePlan_port h]; rfl
  rw [settledRecord, applyTake_outputRuns, ← settledRecord, plannedState, settleScope_dests, h]

theorem applyTake_dests_unlatched {d : DestIx} (h : latchedEntry t.latches d = none) :
    (applyTake lost t s).dests[d] = settledRecord t.scope (applyTake lost t s) d s.dests[d] := by
  rw [← plannedState_dests, applyTake_eq]
  simp only [replaceEntries, updateAll_getElem_fin, h]

theorem applyTake_dests_latched {d : DestIx} {e : RouteEntry} (h : latchedEntry t.latches d = some e) :
    (applyTake lost t s).dests[d] =
      enterEntry s.sources (s.entries[d]).delay e (outputRuns (applyTake lost t s) d)
        (settledRecord t.scope (applyTake lost t s) d s.dests[d]) := by
  rw [← plannedState_dests, applyTake_outputRuns, applyTake_eq, plannedState_eq]
  simp only [replaceEntries, updateAll_getElem_fin, h]

end

section
variable {t : Take} {n : LaneIx} (h : t.scope = laneScope n) (lost : Option LaneIx) (s : State)
include h

theorem applyTake_lanes_of_lane :
    (applyTake lost t s).lanes = modifyAt s.lanes n fun l => settledLane (plannedLane t.plan l) := by
  rw [applyTake_lanes, plannedState_lane h, settleLane_eq, State.modifyLane_lanes, modifyAt_modifyAt]

theorem applyTake_ports_of_lane : (applyTake lost t s).ports = s.ports := by
  rw [applyTake_ports, plannedState_lane h, settleLane_eq, State.modifyLane_ports]

end

section
variable {t : Take} {p : PortIx} (h : t.scope = portScope p) (lost : Option LaneIx) (s : State)
include h

theorem applyTake_lanes_of_port : (applyTake lost t s).lanes = s.lanes := by
  rw [applyTake_lanes, plannedState_port h, settlePort_eq, State.modifyPort_lanes]

theorem applyTake_ports_of_port :
    (applyTake lost t s).ports = modifyAt s.ports p fun x => settledPort (plannedPort s t.plan x) := by
  rw [applyTake_ports, plannedState_port h, settlePort_eq, State.modifyPort_ports, modifyAt_modifyAt]

end

/-! ### The lane that an application leaves (R11) -/

@[simp] theorem plannedLane_inputState (plan : Option ScopePlan) (l : Lane) :
    (plannedLane plan l).inputState = l.inputState := by
  unfold plannedLane; split <;> rfl

/-- An application changes a lane's plan, carry queues and running groups, and nothing else of it. -/
theorem appliedLane_eq (plan : Option ScopePlan) (l : Lane) :
    settledLane (plannedLane plan l) = { l with
      plan := (plannedLane plan l).plan
      queues := (plannedLane plan l).queues
      running := (settledLane (plannedLane plan l)).running } := by
  unfold plannedLane; split <;> rfl

theorem plannedLane_plan (plan : Option ScopePlan) (l : Lane) :
    (plannedLane plan l).plan = (match plan with
      | some (.lane new) => new
      | _ => l.plan) := by
  unfold plannedLane; split <;> rfl

/-- The carry queue of a group that leaves an EMBED mode is emptied; every other is kept (R11). -/
theorem plannedLane_queues (plan : Option ScopePlan) (l : Lane) (g : GroupIx) :
    (plannedLane plan l).queues[g] =
      if embeds l.plan.modes[g] ∧ ¬ embeds (plannedLane plan l).plan.modes[g] then [] else l.queues[g] := by
  unfold plannedLane
  split
  · simp only [replaceLanePlan, updateAll_getElem_fin, queueAfterMode, Bool.not_eq_true, Bool.not_eq_eq_eq_not,
      Bool.not_true]
  · rw [if_neg (fun h => h.2 h.1)]

theorem settledLane_running (l : Lane) (g : GroupIx) :
    (settledLane l).running[g] = (decide (l.inputState = .locked) && embeds l.plan.modes[g]) := by
  simp only [settledLane, four_getElem]

/-- An application leaves every lane's input state as it is. -/
theorem applyTake_inputState (lost : Option LaneIx) (t : Take) (s : State) (m : LaneIx) :
    ((applyTake lost t s).lanes[m]).inputState = (s.lanes[m]).inputState := by
  rcases scope_cases t.scope with ⟨n, h⟩ | ⟨p, h⟩
  · rw [applyTake_lanes_of_lane h, modifyAt_getElem]
    split
    · rename_i hm
      subst hm
      exact plannedLane_inputState ..
    · rfl
  · rw [applyTake_lanes_of_port h]

/-! ### Output sides outside the scope -/

/-- An output side outside the scope of a settled or applied lane runs as it did. -/
theorem outputRuns_modifyLane_ne {d : DestIx} {n : LaneIx} (h : trackScope d ≠ laneScope n) {s t : State}
    {f : Lane → Lane} (hl : t.lanes = modifyAt s.lanes n f) (hp : t.ports = s.ports) :
    outputRuns t d = outputRuns s d := by
  unfold outputRuns
  cases hd : trackPlace d with
  | lane m =>
    have hm : n ≠ m := by
      rintro rfl
      exact h (by simp only [trackScope, hd])
    simp only [hl, modifyAt_getElem_ne _ hm]
  | port p => simp only [hp]

theorem outputRuns_modifyPort_ne {d : DestIx} {p : PortIx} (h : trackScope d ≠ portScope p) {s t : State}
    {f : Port → Port} (hl : t.lanes = s.lanes) (hp : t.ports = modifyAt s.ports p f) :
    outputRuns t d = outputRuns s d := by
  unfold outputRuns
  cases hd : trackPlace d with
  | lane m => simp only [hl]
  | port q =>
    have hq : p ≠ q := by
      rintro rfl
      exact h (by simp only [trackScope, hd])
    simp only [hp, modifyAt_getElem_ne _ hq]

theorem applyTake_outputRuns_ne {d : DestIx} {t : Take} (h : trackScope d ≠ t.scope) (lost : Option LaneIx) (s : State) :
    outputRuns (applyTake lost t s) d = outputRuns s d := by
  rcases scope_cases t.scope with ⟨n, hs⟩ | ⟨p, hs⟩
  · exact outputRuns_modifyLane_ne (hs ▸ h) (applyTake_lanes_of_lane hs lost s) (applyTake_ports_of_lane hs lost s)
  · exact outputRuns_modifyPort_ne (hs ▸ h) (applyTake_lanes_of_port hs lost s) (applyTake_ports_of_port hs lost s)

/-! ### What the statements say of an application -/

theorem settledRecord_of_ne {scope : Iface} {d : DestIx} (h : trackScope d ≠ scope) (t : State) (r : LiveRecord) :
    settledRecord scope t d r = r :=
  if_neg fun e => h e.1

theorem settledRecord_running {t : State} {d : DestIx} (h : outputRuns t d = true) (scope : Iface) (r : LiveRecord) :
    settledRecord scope t d r = r :=
  if_neg fun e => by simp [e.2] at h

theorem settledRecord_stopped {scope : Iface} {t : State} {d : DestIx} (h : trackScope d = scope)
    (ht : outputRuns t d = false) (r : LiveRecord) : settledRecord scope t d r = stopRecord r :=
  if_pos ⟨h, ht⟩

/-- Latched destinations act on their entries: each becomes ACTIVE or FILLING where its output side runs, PARKED where an
enabled one does not run, IDLE when disabled; records outside the scope are still where nothing runs (R83 to R88). -/
theorem applyTake_latchedActed (lost : Option LaneIx) (t : Take) (s : State)
    (still : ∀ d, trackScope d ≠ t.scope → outputRuns s d = false →
      (s.dests[d]).state ≠ .active ∧ (s.dests[d]).state ≠ .filling) :
    (applyTake lost t s).latchedActed t := by
  intro d hd
  obtain ⟨e, he⟩ := latchedEntry_of_mem hd
  rw [applyTake_entries, he, Option.getD_some, applyTake_dests_latched lost t s he]
  by_cases hen : e.enabled = true
  · rw [if_pos hen]
    by_cases hr : outputRuns (applyTake lost t s) d = true
    · rw [if_pos hr, hr]
      exact enterEntry_running_state hen ..
    · rw [Bool.not_eq_true] at hr
      rw [if_neg (by simp [hr]), hr]
      refine enterEntry_stopped_state hen ?_ ..
      by_cases hs : trackScope d = t.scope
      · rw [settledRecord_stopped hs hr]
        exact stopRecord_state _
      · rw [settledRecord_of_ne hs]
        have hst := still d hs (by rwa [applyTake_outputRuns_ne hs] at hr)
        cases hc : (s.dests[d]).state with
        | idle => exact .inl rfl
        | parked => exact .inr rfl
        | active => exact absurd hc hst.1
        | filling => exact absurd hc hst.2
  · rw [if_neg hen]
    exact enterEntry_disabled_state (by simpa using hen) ..

/-- Each latched destination of the scope acts once on its new entry, from its settled record (R86 to R88). -/
theorem applyTake_latchedEntered (lost : Option LaneIx) (t : Take) (s : State) :
    s.latchedEntered (applyTake lost t s) t := by
  intro d hs hd
  obtain ⟨e, he⟩ := latchedEntry_of_mem hd
  refine ⟨settledRecord t.scope (applyTake lost t s) d s.dests[d], ?_, ?_⟩
  · by_cases hr : outputRuns (applyTake lost t s) d = true
    · rw [if_pos hr, settledRecord_running hr]
    · rw [if_neg hr, settledRecord_stopped hs (by simpa using hr)]
      exact stopRecord_stoppedFrom _
  · rw [applyTake_entries, he, Option.getD_some, applyTake_dests_latched lost t s he, applyTake_sources]

/-- A statement about latched destinations carries over to a state that agrees on entries, output sides and their records. -/
theorem latchedActed_congr {t u : State} {k : Take} (he : u.entries = t.entries)
    (hr : ∀ d, outputRuns u d = outputRuns t d)
    (hd : ∀ d, (∃ c ∈ k.latches, c.1 = d) → u.dests[d] = t.dests[d]) (h : t.latchedActed k) : u.latchedActed k := by
  intro d hk
  rw [he, hr, hd d hk]
  exact h d hk

theorem latchedEntered_congr {s t u : State} {k : Take} (he : u.entries = t.entries) (hsrc : u.sources = t.sources)
    (hr : ∀ d, outputRuns u d = outputRuns t d)
    (hd : ∀ d, (∃ c ∈ k.latches, c.1 = d) → u.dests[d] = t.dests[d]) (h : s.latchedEntered t k) :
    s.latchedEntered u k := by
  intro d hs hk
  rw [he, hsrc, hr, hd d hk]
  exact h d hs hk

/-- The owner that hears of its take (R160, R165). -/
theorem ownerHears_iff (lost : Option LaneIx) (owner : Iface) (s : State) :
    ownerHears lost owner s = true ↔
      8 ≤ owner.val ∨ ∃ m : LaneIx, m.val = owner.val ∧ ((s.lanes[m]).inputState = .locked ∨ lost = some m) := by
  unfold ownerHears
  rcases scope_cases owner with ⟨n, rfl⟩ | ⟨p, rfl⟩
  · have hn : ¬ 8 ≤ (laneScope n).val := by simp only [laneScope]; omega
    simp only [ifacePlace_laneScope, Bool.or_eq_true, decide_eq_true_eq, hn, false_or]
    constructor
    · exact fun h => ⟨n, rfl, h⟩
    · rintro ⟨m, hm, h⟩
      obtain rfl : m = n := Fin.ext hm
      exact h
  · simp only [ifacePlace_portScope, true_iff]
    exact .inl (by simp only [portScope]; omega)

theorem originKind_toNat (o : TakeOrigin) : (originKind o).toNat = if o = .commit then 0x23 else 0x25 := by
  cases o <;> rfl

/-- The reply queue and the counter after an application are what the statements say of a state `b` that agrees on the
owner's hearing, the queue, the count, the straps and the counter (R160, R165). -/
theorem applyTake_replies {lost : Option LaneIx} {t : Take} {s b : State}
    (hears : (8 ≤ t.owner.val ∨ ∃ m : LaneIx, m.val = t.owner.val
        ∧ ((s.lanes[m]).inputState = .locked ∨ lost = some m)) ↔
      (8 ≤ t.owner.val ∨ ∃ m : LaneIx, m.val = t.owner.val ∧ (b.lanes[m]).inputState = .locked))
    (hq : s.replies = b.replies) (hc : s.ref.count = b.ref.count) (hs : s.straps = b.straps)
    (hd : s.droppedApplied = b.droppedApplied) :
    (applyTake lost t s).replies = (b.applied t).replies
      ∧ (applyTake lost t s).droppedApplied = (b.applied t).droppedApplied := by
  have hin (m : LaneIx) : ((enteredState t s).lanes[m]).inputState = (s.lanes[m]).inputState := by
    rw [← applyTake_inputState lost t s m, applyTake_lanes, enteredState_eq]
  have hear : ownerHears lost t.owner (enteredState t s) = true ↔
      (8 ≤ t.owner.val ∨ ∃ m : LaneIx, m.val = t.owner.val ∧ (b.lanes[m]).inputState = .locked) := by
    rw [ownerHears_iff, ← hears]
    simp only [hin]
  have hur : (enteredState t s).replies = b.replies := by rw [← hq, enteredState_eq]
  have huc : (enteredState t s).ref = s.ref := by rw [enteredState_eq]
  have hus : (enteredState t s).straps = b.straps := by rw [← hs, enteredState_eq]
  have hud : (enteredState t s).droppedApplied = b.droppedApplied := by rw [← hd, enteredState_eq]
  rw [applyTake_eq_reply]
  simp only [replyApplied, State.applied, hear, hur]
  split
  · rw [queueReply_eq_answer]
    simp only [State.answer, originKind_toNat, hur, hus, huc, hc, hud, statusCode, toWord]
    exact ⟨rfl, trivial⟩
  · exact ⟨rfl, by simp only [hud]⟩

/-- The undo stacks after an application (R158). -/
theorem pushUndo_undo (t : Take) (s : State) (i : Iface) :
    (pushUndo t s).undo[i] =
      if i = t.scope ∧ t.origin = .commit ∧ (t.latches ≠ [] ∨ t.plan ≠ none) then
        ({ entries := t.latches.map fun c => (c.1, s.entries[c.1])
           plan := t.plan.map fun _ => scopePlan s t.scope } :: s.undo[i]).take 6
      else s.undo[i] := by
  unfold pushUndo
  by_cases h : t.origin = .commit ∧ (t.latches ≠ [] ∨ t.plan.isSome)
  · rw [if_pos h]
    simp only [modifyAt_getElem]
    rw [Option.isSome_iff_ne_none] at h
    by_cases hi : t.scope = i
    · subst hi
      rw [if_pos rfl, if_pos ⟨rfl, h⟩]
      rfl
    · rw [if_neg hi, if_neg (fun e => hi e.1.symm)]
  · rw [if_neg h]
    rw [Option.isSome_iff_ne_none] at h
    rw [if_neg (fun e => h e.2)]

/-- An application of a lane's or port's take, no lane being lost, takes what the statements say (R158 to R160). -/
theorem applyTake_tookTake (t : Take) (s : State) : s.tookTake (applyTake none t s) t (scopePlan s t.scope) := by
  obtain ⟨hr, hd⟩ := applyTake_replies (lost := none) (t := t) (s := s) (b := s) (by simp) rfl rfl rfl rfl
  refine ⟨applyTake_take .., fun d => ?_, fun i => ?_, hr, hd, applyTake_sources .., applyTake_straps ..,
    applyTake_unanswered .., applyTake_resetHeld ..⟩
  · rw [applyTake_entries, entryFor_eq]
  · rw [applyTake_undo, pushUndo_undo]

theorem scopePlan_laneScope (s : State) (n : LaneIx) : scopePlan s (laneScope n) = .lane (s.lanes[n]).plan := by
  simp only [scopePlan, ifacePlace_laneScope]

end Sys2Proof.Machine
end

section
/-! Boundaries of a lane and takes that wait or are applied at once: O17, O18, O53. -/

namespace Sys2Proof.Machine

/-! ### The check of a scope (R73) -/

theorem checkScope_dests (scope : Iface) (skip : DestIx → Bool) (s : State) (d : DestIx) :
    (checkScope scope skip s).dests[d] =
      if trackScope d = scope ∧ skip d = false then check s.sources s.entries[d] (outputRuns s d) s.dests[d]
      else s.dests[d] := by
  simp only [checkScope, State.updateDests_dests, updateAll_getElem_fin, Bool.not_eq_eq_eq_not, Bool.not_true]

theorem checkScope_dests_in {scope : Iface} {skip : DestIx → Bool} {d : DestIx} (h : trackScope d = scope)
    (hskip : skip d = false) (s : State) :
    (checkScope scope skip s).dests[d] = check s.sources s.entries[d] (outputRuns s d) s.dests[d] := by
  rw [checkScope_dests, if_pos ⟨h, hskip⟩]

theorem checkScope_dests_out {scope : Iface} {skip : DestIx → Bool} {d : DestIx}
    (h : trackScope d ≠ scope ∨ skip d = true) (s : State) : (checkScope scope skip s).dests[d] = s.dests[d] := by
  rw [checkScope_dests, if_neg]
  rintro ⟨hs, hk⟩
  rcases h with h | h
  · exact h hs
  · simp [hk] at h

theorem checkScope_outputRuns (scope : Iface) (skip : DestIx → Bool) (s : State) (d : DestIx) :
    outputRuns (checkScope scope skip s) d = outputRuns s d := rfl

/-- The check of a record of a settled scope: its own check where the output side runs, none where it has stopped. -/
theorem check_settledRecord {scope : Iface} {t : State} {d : DestIx} (h : trackScope d = scope)
    (sources : Vector Source 192) (e : RouteEntry) (r : LiveRecord) :
    if outputRuns t d then check sources e (outputRuns t d) (settledRecord scope t d r) = check sources e true r
    else (check sources e (outputRuns t d) (settledRecord scope t d r)).stoppedFrom r := by
  by_cases hr : outputRuns t d = true
  · rw [if_pos hr, settledRecord_running hr, hr]
  · rw [if_neg hr]
    rw [Bool.not_eq_true] at hr
    rw [settledRecord_stopped h hr, hr, check_stopRecord]
    exact stopRecord_stoppedFrom r

theorem trackScope_of_group {d : DestIx} {n : LaneIx} {g : GroupIx} (h : d.val / 4 = 4 * n.val + g.val) :
    trackScope d = laneScope n := by
  rw [trackScope_eq_laneScope_iff]
  omega

theorem outputRuns_of_group {d : DestIx} {n : LaneIx} {g : GroupIx} (h : d.val / 4 = 4 * n.val + g.val) (t : State) :
    outputRuns t d = (t.lanes[n]).running[g] := by
  rw [outputRuns_lane (trackPlace_eq_lane_of_scope (trackScope_of_group h))]
  simp only [trackGroup_eq h]

/-! ### The cadence phase (R145, R146) -/

theorem formatFractional_eq (f : Option Format) :
    (f.map formatFractional).getD false = decide (f = some .f29 ∨ f = some .f59) := by
  cases f with
  | none => simp
  | some f => cases f <;> simp [formatFractional]

theorem phaseSlips_eq (first flag : Bool) (count : Fin 60000) (p : Fin 5) :
    phaseSlips first flag count p = (flag && !first && decide (count.val % 5 ≠ (p.val + 1) % 5)) := by
  cases first <;> cases flag <;> rfl

/-- The frame count unit and a lane after `setPhase`, in a state that agrees with `s` on what `setPhase` reads (R145,
R146). -/
theorem setPhase_phased {n : LaneIx} {s u t : State} (href : u.ref = s.ref)
    (hfmt : (u.lanes[n]).format = (s.lanes[n]).format) (hfirst : (u.lanes[n]).firstFrame = (s.lanes[n]).firstFrame)
    (hcnt : (u.lanes[n]).counters = (s.lanes[n]).counters) (ht : t.ref = (setPhase n u).ref)
    (hl : t.lanes[n] = (setPhase n u).lanes[n]) : s.phased n t := by
  unfold State.phased
  rw [ht, hl]
  simp only [setPhase, modifyAt_getElem_self, href, hfmt, hfirst, hcnt, formatFractional_eq]
  refine ⟨rfl, ?_, trivial, ?_⟩
  · by_cases hfr : (s.lanes[n]).format = some .f29 ∨ (s.lanes[n]).format = some .f59
    · by_cases hff : ((s.lanes[n]).firstFrame || s.ref.realign[n]) = true <;> simp [-Fin.getElem_fin, hfr, hff, nextPhase]
    · simp [-Fin.getElem_fin, hfr]
  · simp only [phaseSlips_eq, bitNat, Bool.and_assoc]

/-! ### Output frame starts (R7) -/

theorem pendingOn_eq_none {s : State} {scope : Iface} (h : ∀ k ∈ s.take, k.state = .pending → k.scope ≠ scope) :
    pendingOn s scope = none := by
  unfold pendingOn
  split
  · rename_i t ht
    exact if_neg fun e => h t ht e.1 e.2
  · rfl

theorem pendingOn_eq_some {s : State} {k : Take} (hk : s.take = some k) (hp : k.state = .pending) :
    pendingOn s k.scope = some k := by
  simp only [pendingOn, hk, hp, and_self, if_true]

theorem exec_outputFrameStart {s : State} (hs : s.resetHeld = false) (n : LaneIx) :
    exec (.outputFrameStart n) s = .next (outputFrameStart n s) := by
  rw [exec]
  exact powered_on hs _

/-- `setPhase` on a lane: its first frame has started, and a slip may be counted. -/
theorem setPhase_lane_eq (n : LaneIx) (s : State) :
    ∃ slips : Counter, (setPhase n s).lanes = modifyAt s.lanes n fun l =>
      { l with firstFrame := false, counters := { l.counters with slips := slips } } :=
  ⟨_, rfl⟩

theorem setPhase_outputRuns (n : LaneIx) (s : State) (d : DestIx) :
    outputRuns (setPhase n s) d = outputRuns s d :=
  outputRuns_congr_running (t := setPhase n s) (s := s)
    (fun _ => modifyAt_proj Lane.running (fun _ => by rfl) _ _ _) (fun _ => rfl) d

/-- Settles O17: the boundary without a take, destination by destination. -/
theorem outputFrameStartSettlesLane : Obligations.OutputFrameStartSettlesLane := by
  intro n s hs
  rw [exec_outputFrameStart hs, outputFrameStart]
  refine ⟨fun h => by rw [if_neg h], fun hlock hk => ?_⟩
  have hnone : pendingOn s (laneScope n) = none := by
    refine pendingOn_eq_none fun k hkt hp => ?_
    rw [ne_eq, eq_laneScope_iff]
    exact hk k hkt hp
  rw [if_pos hlock, boundary_none hnone, settleScope_laneScope]
  have hlane : (settleLane n s).lanes[n] = settledLane s.lanes[n] := by
    rw [settleLane_eq]; exact modifyAt_getElem_self ..
  have hdest (d : DestIx) : (settleLane n s).dests[d] = settledRecord (laneScope n) (settleLane n s) d s.dests[d] := by
    rw [← settleScope_laneScope, settleScope_dests]
  refine ⟨_, rfl, rfl, ?_, ?_, fun g => ?_, fun d hd => ?_, fun g d hd => ?_⟩
  · exact setPhase_phased (u := settleLane n s) rfl (by rw [hlane]; rfl) (by rw [hlane]; rfl) (by rw [hlane]; rfl) rfl rfl
  · obtain ⟨slips, hph⟩ := setPhase_lane_eq n (settleLane n s)
    change (setPhase n (settleLane n s)).lanes = s.lanes.set n.val
      { s.lanes[n] with
        firstFrame := false
        running := ((setPhase n (settleLane n s)).lanes[n]).running
        counters := ((setPhase n (settleLane n s)).lanes[n]).counters } n.isLt
    rw [hph, modifyAt_getElem_self, hlane, settleLane_eq, modifyAt_modifyAt]
    rfl
  · obtain ⟨slips, hph⟩ := setPhase_lane_eq n (settleLane n s)
    change ((setPhase n (settleLane n s)).lanes[n]).running[g] = _
    rw [hph, modifyAt_getElem_self, hlane]
    simp only [settledLane_running, hlock, decide_true, Bool.true_and]
  · have hne : trackScope d ≠ laneScope n := by rwa [ne_eq, trackScope_eq_laneScope_iff]
    rw [checkScope_dests_out (.inl hne)]
    exact (hdest d).trans (settledRecord_of_ne hne _ _)
  · have hsc := trackScope_of_group hd
    rw [checkScope_dests_in hsc rfl, ← outputRuns_of_group hd, checkScope_outputRuns, setPhase_outputRuns]
    change if _ then check s.sources s.entries[d] _ ((settleLane n s).dests[d]) = _ else
      (check s.sources s.entries[d] _ ((settleLane n s).dests[d])).stoppedFrom _
    rw [hdest]
    exact check_settledRecord hsc ..

/-! ### A take pending on a lane -/

theorem still_of_outputsConsistent {s : State} (h : s.outputsConsistent) {d : DestIx} (hr : outputRuns s d = false) :
    (s.dests[d]).state ≠ .active ∧ (s.dests[d]).state ≠ .filling ∧ (s.dests[d]).fade = 32 := by
  have hd := h.2.2 d
  rwa [hr] at hd

section
variable {k : Take} {n : LaneIx} (h : k.scope = laneScope n) (lost : Option LaneIx) (s : State)
include h

/-- The lane of an applied take (R11). -/
theorem applyTake_lane :
    (applyTake lost k s).lanes[n] = settledLane (plannedLane k.plan s.lanes[n]) := by
  rw [applyTake_lanes_of_lane h, modifyAt_getElem_self]

/-- An output side of the lane of an applied take runs where its group, LOCKED, is in an EMBED mode (R83). -/
theorem applyTake_running (g : GroupIx) :
    ((applyTake lost k s).lanes[n]).running[g] =
      (decide ((s.lanes[n]).inputState = .locked) && embeds ((applyTake lost k s).lanes[n]).plan.modes[g]) := by
  rw [applyTake_lane h, settledLane_running, plannedLane_inputState]
  rfl

theorem applyTake_lane_plan :
    ((applyTake lost k s).lanes[n]).plan = (match k.plan with
      | some (.lane new) => new
      | _ => (s.lanes[n]).plan) := by
  rw [applyTake_lane h]
  exact plannedLane_plan ..

theorem applyTake_lane_queues (g : GroupIx) :
    ((applyTake lost k s).lanes[n]).queues[g] =
      if embeds (s.lanes[n]).plan.modes[g] ∧ ¬ embeds ((applyTake lost k s).lanes[n]).plan.modes[g] then []
      else (s.lanes[n]).queues[g] := by
  rw [applyTake_lane h]
  exact plannedLane_queues ..

/-- An application changes the plan, the carry queues and the running groups of its lane, and no other lane. -/
theorem applyTake_lanes_eq_set :
    (applyTake lost k s).lanes = s.lanes.set n.val { s.lanes[n] with
      plan := ((applyTake lost k s).lanes[n]).plan
      queues := ((applyTake lost k s).lanes[n]).queues
      running := ((applyTake lost k s).lanes[n]).running } n.isLt := by
  rw [applyTake_lane h, applyTake_lanes_of_lane h, modifyAt_eq_set]
  exact congrArg (fun l => s.lanes.set n.val l n.isLt) (appliedLane_eq ..)

end

theorem exec_outputFrameStart_taking {n : LaneIx} {k : Take} {s : State} (hs : s.resetHeld = false)
    (hlock : (s.lanes[n]).inputState = .locked) (hk : s.take = some k) (hp : k.state = .pending)
    (hsc : k.scope = laneScope n) :
    exec (.outputFrameStart n) s = .next (checkScope (laneScope n) (fun d => (latchedEntry k.latches d).isSome)
      (setPhase n (applyTake none k s))) := by
  rw [exec_outputFrameStart hs, outputFrameStart, if_pos hlock, boundary_some (hsc ▸ pendingOn_eq_some hk hp)]

/-- Settles O18: the application, then the phase and the check of the destinations it did not latch. -/
theorem outputFrameStartAppliesTake : Obligations.OutputFrameStartAppliesTake := by
  intro n k s hs hlock hk hp hscv hcons
  have hsc : k.scope = laneScope n := (eq_laneScope_iff _ _).2 hscv
  obtain ⟨slips, hph⟩ := setPhase_lane_eq n (applyTake none k s)
  have hlane : (setPhase n (applyTake none k s)).lanes[n] =
      { (applyTake none k s).lanes[n] with
        firstFrame := false
        counters := { ((applyTake none k s).lanes[n]).counters with slips := slips } } := by
    rw [hph, modifyAt_getElem_self]
  have hskip {d : DestIx} (hd : ∃ c ∈ k.latches, c.1 = d) (u : State) :
      (checkScope (laneScope n) (fun d => (latchedEntry k.latches d).isSome) u).dests[d] = u.dests[d] := by
    obtain ⟨e, he⟩ := latchedEntry_of_mem hd
    exact checkScope_dests_out (.inr (by rw [he]; rfl)) u
  have hrun (d : DestIx) : outputRuns (setPhase n (applyTake none k s)) d = outputRuns (applyTake none k s) d :=
    setPhase_outputRuns ..
  refine ⟨_, exec_outputFrameStart_taking hs hlock hk hp hsc, ?_, ?_, ?_, fun g => ?_, fun g => ?_, ?_, ?_, ?_, ?_,
    fun d hd => ⟨fun hne => ?_, fun g hg => ?_⟩⟩
  · have htook := applyTake_tookTake k s
    rw [hsc, scopePlan_laneScope] at htook
    exact htook
  · refine setPhase_phased (u := applyTake none k s) (applyTake_ref ..) ?_ ?_ ?_ rfl rfl
    all_goals
      rw [applyTake_lane hsc, appliedLane_eq]
  · change ((setPhase n (applyTake none k s)).lanes[n]).plan = _
    rw [hlane]
    exact applyTake_lane_plan hsc ..
  · change ((setPhase n (applyTake none k s)).lanes[n]).running[g] =
      embeds ((setPhase n (applyTake none k s)).lanes[n]).plan.modes[g]
    rw [hlane]
    exact (applyTake_running hsc ..).trans (by rw [hlock]; rfl)
  · change ((setPhase n (applyTake none k s)).lanes[n]).queues[g] = if _ ∧ ¬ embeds
      ((setPhase n (applyTake none k s)).lanes[n]).plan.modes[g] then _ else _
    simp only [hlane]
    exact applyTake_lane_queues hsc ..
  · change (setPhase n (applyTake none k s)).lanes = s.lanes.set n.val { s.lanes[n] with
      plan := ((setPhase n (applyTake none k s)).lanes[n]).plan
      running := ((setPhase n (applyTake none k s)).lanes[n]).running
      queues := ((setPhase n (applyTake none k s)).lanes[n]).queues
      firstFrame := false
      counters := ((setPhase n (applyTake none k s)).lanes[n]).counters } n.isLt
    rw [hlane, hph, modifyAt_eq_set, applyTake_lanes_of_lane hsc, modifyAt_getElem_self, modifyAt_eq_set,
      Vector.set_set, appliedLane_eq]
  · exact applyTake_ports_of_lane hsc ..
  · refine latchedActed_congr (t := applyTake none k s) rfl hrun (fun d hd => hskip hd _) ?_
    exact applyTake_latchedActed none k s fun d _ hr =>
      ⟨(still_of_outputsConsistent hcons hr).1, (still_of_outputsConsistent hcons hr).2.1⟩
  · exact latchedEntered_congr (t := applyTake none k s) rfl rfl hrun (fun d hd => hskip hd _)
      (applyTake_latchedEntered none k s)
  · have hout : trackScope d ≠ laneScope n := by rwa [ne_eq, trackScope_eq_laneScope_iff]
    rw [checkScope_dests_out (.inl hout)]
    exact (applyTake_dests_unlatched _ _ _ ((latchedEntry_eq_none_iff _ _).2 hd)).trans
      (settledRecord_of_ne (hsc ▸ hout) _ _)
  · have hin := trackScope_of_group hg
    have hnone : latchedEntry k.latches d = none := (latchedEntry_eq_none_iff _ _).2 hd
    have hrec := applyTake_dests_unlatched none k s hnone
    have hent : (applyTake none k s).entries[d] = s.entries[d] := by rw [applyTake_entries, hnone]; rfl
    rw [checkScope_dests_in hin (by rw [hnone]; rfl), ← outputRuns_of_group hg, checkScope_outputRuns, hrun]
    change if _ then check (applyTake none k s).sources (applyTake none k s).entries[d] _ ((applyTake none k s).dests[d]) = _
      else (check (applyTake none k s).sources (applyTake none k s).entries[d] _
        ((applyTake none k s).dests[d])).stoppedFrom _
    rw [hrec, hent, applyTake_sources]
    exact check_settledRecord (hsc ▸ hin) ..

end Sys2Proof.Machine
end

section
/-! Takes that wait or are applied at once (R155, R157, R161): O53. -/

namespace Sys2Proof.Machine

/-- The take that is held plays no part in what an application leaves. -/
theorem tookTake_of_setTake {s t : State} {k : Take} {plan : ScopePlan} {u : Option Take}
    (h : State.tookTake { s with take := u } t k plan) : s.tookTake t k plan := by
  have hrep : (State.applied { s with take := u } k).replies = (s.applied k).replies := by
    simp only [State.applied]
    split <;> rfl
  have hdrop : (State.applied { s with take := u } k).droppedApplied = (s.applied k).droppedApplied := by
    simp only [State.applied]
    split <;> rfl
  obtain ⟨htake, hent, hundo, hr, hd, hrest⟩ := h
  exact ⟨htake, hent, hundo, hr.trans hrep, hd.trans hdrop, hrest⟩

/-- A lane that is not LOCKED runs no group after an application on it. -/
theorem applyTake_running_unlocked {k : Take} {n : LaneIx} (h : k.scope = laneScope n) (lost : Option LaneIx)
    {s : State} (hun : (s.lanes[n]).inputState ≠ .locked) :
    ((applyTake lost k s).lanes[n]).running = Vector.replicate 4 false := by
  refine vector_ext_fin fun g => ?_
  rw [applyTake_running h, decide_eq_false hun]
  simp

theorem outputRuns_unlocked {s : State} (hcons : s.outputsConsistent) {n : LaneIx}
    (hun : (s.lanes[n]).inputState ≠ .locked) {d : DestIx} (hd : trackScope d = laneScope n) :
    outputRuns s d = false := by
  rw [outputRuns_lane (trackPlace_eq_lane_of_scope hd), ← Bool.not_eq_true]
  exact fun hr => hun (hcons.1 n _ hr).1

/-- On a lane that is not LOCKED a settled record is the one there was: nothing runs there, so nothing stops. -/
theorem settledRecord_unlocked {s : State} (hcons : s.outputsConsistent) {n : LaneIx}
    (hun : (s.lanes[n]).inputState ≠ .locked) (t : State) (d : DestIx) :
    settledRecord (laneScope n) t d s.dests[d] = s.dests[d] := by
  unfold settledRecord
  split
  · rename_i h
    obtain ⟨ha, hf, hr⟩ := still_of_outputsConsistent hcons (outputRuns_unlocked hcons hun h.1)
    exact stopRecord_still ha hf hr
  · rfl

/-- What an application at once leaves of the lane, the ports, the frame count unit and the destinations (R11, R86 to R88). -/
theorem applyTake_unlocked {k : Take} {n : LaneIx} {s : State} (hsc : k.scope = laneScope n)
    (hun : (s.lanes[n]).inputState ≠ .locked) (hcons : s.outputsConsistent) :
    let t := applyTake none k s
    (t.lanes[n]).plan = (match k.plan with
        | some (.lane new) => new
        | _ => (s.lanes[n]).plan)
      ∧ (∀ g : GroupIx, (t.lanes[n]).queues[g] =
          if embeds (s.lanes[n]).plan.modes[g] ∧ ¬ embeds (t.lanes[n]).plan.modes[g] then []
          else (s.lanes[n]).queues[g])
      ∧ t.lanes = s.lanes.set n.val { s.lanes[n] with
          plan := (t.lanes[n]).plan, queues := (t.lanes[n]).queues, running := Vector.replicate 4 false } n.isLt
      ∧ t.ports = s.ports ∧ t.ref = s.ref ∧ t.latchedActed k ∧ s.latchedEntered t k
      ∧ ∀ d : DestIx, (∀ c ∈ k.latches, c.1 ≠ d) → t.dests[d] = s.dests[d] := by
  refine ⟨applyTake_lane_plan hsc .., fun g => applyTake_lane_queues hsc .., ?_, applyTake_ports_of_lane hsc ..,
    applyTake_ref .., ?_, applyTake_latchedEntered none k s, fun d hd => ?_⟩
  · rw [← applyTake_running_unlocked hsc none hun]
    exact applyTake_lanes_eq_set hsc ..
  · exact applyTake_latchedActed none k s fun d _ hr =>
      ⟨(still_of_outputsConsistent hcons hr).1, (still_of_outputsConsistent hcons hr).2.1⟩
  · rw [applyTake_dests_unlatched _ _ _ ((latchedEntry_eq_none_iff _ _).2 hd), hsc]
    exact settledRecord_unlocked hcons hun ..

/-! ### Waiting or not (R155, R157, R161) -/

theorem applyIfIdle_waits {t : Take} {s : State}
    (h : ∀ n : LaneIx, t.scope = laneScope n → (s.lanes[n]).inputState = .locked) : applyIfIdle t s = s := by
  unfold applyIfIdle
  split
  · rename_i n hn
    exact if_pos (h n ((ifacePlace_eq_lane_iff _ _).1 hn))
  · rfl

theorem applyIfIdle_applies {t : Take} {s : State} {n : LaneIx} (h : t.scope = laneScope n)
    (hun : (s.lanes[n]).inputState ≠ .locked) : applyIfIdle t s = applyTake none t s := by
  simp only [applyIfIdle, h, ifacePlace_laneScope, if_neg hun]

theorem exec_commitTake {k : Take} {s : State} (hs : s.resetHeld = false) (hroom : s.replies.length < 8)
    (hk : s.take = some k) (ho : k.state = .opened) (tag : Word) :
    exec (.commitTake k.owner tag []) s = .next (applyIfIdle (committed k tag) { s with take := some (committed k tag) }) := by
  have h : exec (.commitTake k.owner tag []) s = powered s (commitTake k.owner tag []) := rfl
  rw [h, powered_on hs, commitTake, withoutParams_nil hroom, (ownTake_ok_iff _ _ _).2 ⟨hk, rfl, ho⟩]

theorem toNat_ofNat_scope (scope : Iface) : (BitVec.ofNat 16 scope.val).toNat = scope.val := by
  simp only [BitVec.toNat_ofNat]
  omega

/-- UNDO TAKE of a scope, the room test passed (R161). -/
theorem exec_undoTake {s : State} (hs : s.resetHeld = false) (hroom : s.replies.length < 8) (i scope : Iface) (tag : Word) :
    exec (.undoTake i tag [BitVec.ofNat 16 scope.val]) s = .next (match s.take with
      | some _ => s.answer i 0x11 tag 0x25 []
      | none => match s.undo[scope] with
        | [] => s.answer i 0x16 tag 0x25 []
        | record :: rest => applyIfIdle (undoneTake i scope tag record)
            { s with take := some (undoneTake i scope tag record), undo := modifyAt s.undo scope fun _ => rest }) := by
  have h : exec (.undoTake i tag [BitVec.ofNat 16 scope.val]) s =
      powered s (undoTake i tag [BitVec.ofNat 16 scope.val]) := rfl
  have hlt : (BitVec.ofNat 16 scope.val).toNat < 10 := by rw [toNat_ofNat_scope]; exact scope.isLt
  have hix : (⟨(BitVec.ofNat 16 scope.val).toNat, hlt⟩ : Fin 10) = scope := Fin.ext (toNat_ofNat_scope scope)
  rw [h, powered_on hs, undoTake, withIndex_in hroom hlt, hix]
  cases s.take with
  | some k => simp only [queueReply_eq_answer]; rfl
  | none =>
    cases s.undo[scope] with
    | nil => simp only [queueReply_eq_answer]; rfl
    | cons u rest => rfl

/-- Settles O53: by whether the scope's boundary is to come. -/
theorem commitAndUndoWaitOrApply : Obligations.CommitAndUndoWaitOrApply := by
  intro tag s hs hroom waits appliedAtOnce
  have atOnce (undo : Vector (List UndoRecord) 10) (k : Take) (hw : ¬ waits k.scope) (hcons : s.outputsConsistent) :
      ∃ t, applyIfIdle k { s with undo := undo, take := some k } = t ∧ appliedAtOnce { s with undo := undo } t k := by
    simp only [waits, not_forall] at hw
    obtain ⟨n, hsc, hun⟩ := hw
    refine ⟨_, applyIfIdle_applies hsc hun, n, hsc, tookTake_of_setTake (u := some k) ?_, applyTake_unlocked hsc hun hcons⟩
    have htook := applyTake_tookTake k { s with undo := undo, take := some k }
    rw [hsc, scopePlan_laneScope] at htook
    exact htook
  refine ⟨fun k hk ho => ?_, fun i scope => ?_⟩
  · rw [exec_commitTake hs hroom hk ho]
    refine ⟨fun hw => ?_, fun hw hcons => ?_⟩
    · exact congrArg Host.Outcome.next (applyIfIdle_waits fun n hn => hw n hn)
    · obtain ⟨t, rfl, ht⟩ := atOnce s.undo (committed k tag) hw hcons
      exact ⟨_, rfl, ht⟩
  · intro request
    have hx := exec_undoTake hs hroom i scope tag
    refine ⟨fun hne => ?_, fun hk he => ?_, fun u rest hk hu => ?_⟩
    · obtain ⟨k, hk⟩ := Option.ne_none_iff_exists'.1 hne
      rwa [hk] at hx
    · simp only [hk, he] at hx
      exact hx
    · simp only [hk, hu] at hx
      refine ⟨fun hw => hx.trans (congrArg Host.Outcome.next (applyIfIdle_waits fun n hn => hw n hn)),
        fun hw hcons => ?_⟩
      obtain ⟨t, ht, hat⟩ := atOnce (modifyAt s.undo scope fun _ => rest) (undoneTake i scope tag u) hw hcons
      exact ⟨t, hx.trans (congrArg Host.Outcome.next ht), hat⟩

end Sys2Proof.Machine
end

section
/-! Lane loss (R14, R15), however it comes, with and without a take PENDING on the lane: O7, O40. -/

namespace Sys2Proof.Machine

/-! ### What is lost before a pending take is applied -/

/-- The state in which a take PENDING on a lost lane is applied: groups stopped, sources absent, marks and flag cleared, ports
fallen back (R14, R15). -/
def lostState (n : LaneIx) (state : InputState) (format : Option Format) (s : State) : State :=
  ((absentLane n (setGroups n (fun _ => false) (s.modifyLane n (loseLane state format)))).modifyRef
    (referenceLaneLoss n)).updatePorts fun _ x => fallBack n x

/-- The lane itself at its loss, its groups stopped (R14). -/
def lostLaneRecord (state : InputState) (format : Option Format) (l : Lane) : Lane :=
  { loseLane state format l with running := Vector.replicate 4 false }

theorem laneLoss_eq (n : LaneIx) (state : InputState) (format : Option Format) (s : State) :
    laneLoss n state format s = purgeLane n (applyAtLoss n (lostState n state format s)) := rfl

theorem becomeAbsent_lostFrom (x : Source) : (becomeAbsent x).lostFrom x := by
  unfold becomeAbsent
  split
  · exact ⟨rfl, rfl, rfl, rfl, rfl, rfl, rfl, rfl, rfl, fun _ => ⟨rfl, rfl, rfl, rfl, rfl⟩⟩
  · rename_i h
    exact ⟨by simpa using h, rfl, rfl, rfl, rfl, rfl, rfl, rfl, rfl, fun e => absurd e h⟩

section
variable (n : LaneIx) (state : InputState) (format : Option Format) (s : State)

theorem lostState_eq :
    lostState n state format s = { s with
      lanes := (lostState n state format s).lanes
      sources := (lostState n state format s).sources
      dests := (lostState n state format s).dests
      ports := (lostState n state format s).ports
      ref := referenceLaneLoss n s.ref } := rfl

theorem lostState_lanes :
    (lostState n state format s).lanes = modifyAt s.lanes n (lostLaneRecord state format) := by
  simp only [lostState, absentLane, setGroups, stopDests, State.updatePorts_lanes, State.modifyRef_lanes,
    State.updateSources_lanes, State.modifyLane_lanes, State.updateDests_lanes, modifyAt_modifyAt, four_const]
  rfl

theorem lostState_lane : (lostState n state format s).lanes[n] = lostLaneRecord state format s.lanes[n] := by
  rw [lostState_lanes, modifyAt_getElem_self]

theorem lostState_sources (i : SourceIx) :
    (lostState n state format s).sources[i] =
      if i.val / 16 = n.val then becomeAbsent s.sources[i] else s.sources[i] := by
  refine (updateAll_getElem_fin ..).trans ?_
  simp only [trackPlace_eq_lane_iff]
  rfl

theorem lostState_ports (p : PortIx) : (lostState n state format s).ports[p] = fallBack n s.ports[p] :=
  updateAll_getElem_fin ..

theorem lostState_dests (d : DestIx) :
    (lostState n state format s).dests[d] = if d.val / 16 = n.val then stopRecord s.dests[d] else s.dests[d] := by
  refine (setGroups_dests n (fun _ => false) (s.modifyLane n (loseLane state format)) d).trans ?_
  simp only [trackPlace_eq_lane_iff, and_true, State.modifyLane_dests]

/-- A lost lane does not run, and every output side off it runs as it did (R83, R130). -/
theorem lostState_outputRuns (d : DestIx) :
    outputRuns (lostState n state format s) d = if d.val / 16 = n.val then false else outputRuns s d := by
  unfold outputRuns
  cases hd : trackPlace d with
  | lane m =>
    have hm := (trackPlace_eq_lane_iff d m).1 hd
    rw [hm]
    simp only [lostState_lanes, modifyAt_getElem, ← Fin.ext_iff]
    by_cases h : m = n
    · subst h
      simp [lostLaneRecord]
    · simp only [if_neg (Ne.symm h), if_neg h]
  | port p =>
    have hp := (trackPlace_eq_port_iff d p).1 hd
    rw [if_neg (by omega)]
    simp only [lostState_ports, fallBack]
    split
    · simp only [clockSamples_running]
    · rfl

end

/-! ### The lane's own record -/

theorem lostLaneRecord_quiet (state : InputState) (format : Option Format) (l : Lane) :
    (lostLaneRecord state format l).quiet = true := by
  simp [Lane.quiet, lostLaneRecord, loseLane]

theorem quiet_queues {l : Lane} (h : l.quiet = true) : l.queues = Vector.replicate 4 [] := by
  simp only [Lane.quiet, decide_eq_true_eq] at h
  exact h.1

/-- A take's plan leaves a quiet lane quiet: no carry queue of it holds anything (R11, R14). -/
theorem appliedLane_quiet {l : Lane} (h : l.quiet = true) (plan : Option ScopePlan) :
    (settledLane (plannedLane plan l)).quiet = true := by
  have hq : (plannedLane plan l).queues = l.queues := by
    refine vector_ext_fin fun g => ?_
    have hg : l.queues[g] = [] := by simp [quiet_queues h]
    rw [plannedLane_queues, hg, ite_self]
  rw [appliedLane_eq, hq]
  exact h

/-- A change of a lane's input record and pins alone. -/
def changesInputOnly (g : Lane → Lane) : Prop :=
  ∀ l, g l = { l with
    linkSignal := (g l).linkSignal, inputState := (g l).inputState, format := (g l).format
    frameOpen := (g l).frameOpen, lineCount := (g l).lineCount, linkOut := (g l).linkOut }

/-- The end of a lane loss that has left `v`: its replies are purged, and then its input record alone changes. -/
def closeLoss (n : LaneIx) (g : Lane → Lane) (v : State) : State :=
  (purgeLane n v).modifyLane n g

theorem closeLoss_eq (n : LaneIx) (g : Lane → Lane) (v : State) :
    closeLoss n g v = { v with lanes := (closeLoss n g v).lanes, replies := (closeLoss n g v).replies } := rfl

/-- A lost lane with the replies of a queue that were for it counted as discarded (R166). -/
def purgedLane (n : LaneIx) (replies : List Reply) (l : Lane) : Lane :=
  { l with
    counters := { l.counters with
      discardedReplies := raise l.counters.discardedReplies (replies.countP fun r => decide (r.iface.val = n.val)) } }

theorem closeLoss_lanes (n : LaneIx) (g : Lane → Lane) (v : State) :
    (closeLoss n g v).lanes = modifyAt v.lanes n fun l => g (purgedLane n v.replies l) := by
  simp only [closeLoss, purgeLane, State.modifyLane_lanes, modifyAt_modifyAt, countReplies_lane]
  rfl

theorem closeLoss_lane (n : LaneIx) (g : Lane → Lane) (v : State) :
    (closeLoss n g v).lanes[n] = g (purgedLane n v.replies v.lanes[n]) := by
  rw [closeLoss_lanes, modifyAt_getElem_self]

theorem closeLoss_replies (n : LaneIx) (g : Lane → Lane) (v : State) :
    (closeLoss n g v).replies = v.replies.filter fun r => decide (r.iface.val ≠ n.val) :=
  purgeReplies_lane n v.replies

theorem closeLoss_outputRuns {g : Lane → Lane} (hg : changesInputOnly g) (n : LaneIx) (v : State) (d : DestIx) :
    outputRuns (closeLoss n g v) d = outputRuns v d := by
  refine outputRuns_congr_running (t := closeLoss n g v) (s := v) (fun m => ?_) (fun _ => rfl) d
  rw [closeLoss_lanes]
  exact modifyAt_proj Lane.running (fun l => by rw [hg]; rfl) _ _ _

/-- What lane loss leaves in the other blocks, from a state `v` in which the take, if one was pending, has been applied. -/
theorem closeLoss_lostBlocks {n : LaneIx} {state : InputState} {format : Option Format} {s v : State}
    {g : Lane → Lane} (hg : changesInputOnly g) (hsrc : v.sources = (lostState n state format s).sources)
    (hports : v.ports = (lostState n state format s).ports) (href : v.ref = (lostState n state format s).ref)
    (hne : ∀ m : LaneIx, m ≠ n → v.lanes[m] = s.lanes[m]) (hquiet : (v.lanes[n]).quiet = true)
    (hrun : (v.lanes[n]).running = Vector.replicate 4 false) (hpass : (v.lanes[n]).passProgress = [])
    (hstraps : v.straps = s.straps) (hun : v.unanswered = s.unanswered) : s.lostBlocks n (closeLoss n g v) := by
  have hlane := closeLoss_lane n g v
  refine ⟨fun i => ?_, fun p => ?_, href, fun m hm => ?_, ?_, ?_, ?_, hstraps, hun⟩
  · change if _ then (v.sources[i]).lostFrom _ else v.sources[i] = _
    rw [hsrc, lostState_sources]
    split
    · exact becomeAbsent_lostFrom _
    · rfl
  · change v.ports[p] = _
    rw [hports, lostState_ports]
    rfl
  · rw [closeLoss_lanes, modifyAt_getElem_ne _ (Ne.symm hm), hne m hm]
  · rw [hlane, hg]
    exact hquiet
  · rw [hlane, hg]
    exact hrun
  · rw [hlane, hg]
    exact hpass

theorem lostState_lane_ne (n : LaneIx) (state : InputState) (format : Option Format) (s : State) {m : LaneIx}
    (h : m ≠ n) : (lostState n state format s).lanes[m] = s.lanes[m] := by
  rw [lostState_lanes, modifyAt_getElem_ne _ (Ne.symm h)]

/-- Lane loss without a pending take (R14, R15, R85, R130, R145, R166). -/
theorem closeLoss_lostLane (n : LaneIx) (state : InputState) (format : Option Format) (s : State) {g : Lane → Lane}
    (hg : changesInputOnly g) : s.lostLane n (closeLoss n g (lostState n state format s)) := by
  have hlane := lostState_lane n state format s
  refine ⟨?_, fun d => ?_, closeLoss_replies .., ?_, ?_, ?_⟩
  · exact closeLoss_lostBlocks (state := state) (format := format) hg rfl rfl rfl
      (fun m hm => lostState_lane_ne n state format s hm)
      (by rw [hlane]; exact lostLaneRecord_quiet ..) (by rw [hlane]; rfl) (by rw [hlane]; rfl) rfl rfl
  · change if _ then ((lostState n state format s).dests[d]).stoppedFrom _ else (lostState n state format s).dests[d] = _
    rw [lostState_dests]
    split
    · exact stopRecord_stoppedFrom _
    · rfl
  · rw [closeLoss_lane, hg, hlane]
    rfl
  · rw [closeLoss_lane, hg, hlane]
    rfl
  · rw [closeLoss_eq, lostState_eq]
    exact ⟨rfl, rfl, rfl, rfl⟩

/-! ### A take pending on the lost lane -/

/-- The state after the application of a take at the loss of its lane, before the replies are purged (R157). -/
def takenAtLoss (n : LaneIx) (k : Take) (state : InputState) (format : Option Format) (s : State) : State :=
  applyTake (some n) k (lostState n state format s)

section
variable {n : LaneIx} {k : Take} {state : InputState} (hsc : k.scope = laneScope n) (format : Option Format) (s : State)
include hsc

theorem takenAtLoss_lane :
    (takenAtLoss n k state format s).lanes[n] = settledLane (plannedLane k.plan (lostLaneRecord state format s.lanes[n])) := by
  rw [takenAtLoss, applyTake_lane hsc, lostState_lane]

theorem takenAtLoss_lane_ne {m : LaneIx} (h : m ≠ n) : (takenAtLoss n k state format s).lanes[m] = s.lanes[m] := by
  rw [takenAtLoss, applyTake_lanes_of_lane hsc, modifyAt_getElem_ne _ (Ne.symm h), lostState_lane_ne n state format s h]

/-- An application at the loss changes the lost lane's plan and nothing else of it: no queue holds anything, no group runs. -/
theorem takenAtLoss_lane_eq (hstate : state ≠ .locked) :
    (takenAtLoss n k state format s).lanes[n] = { lostLaneRecord state format s.lanes[n] with
      plan := (match k.plan with
        | some (.lane new) => new
        | _ => (s.lanes[n]).plan) } := by
  have hq := quiet_queues (appliedLane_quiet (lostLaneRecord_quiet state format s.lanes[n]) k.plan)
  have hr : (settledLane (plannedLane k.plan (lostLaneRecord state format s.lanes[n]))).running = Vector.replicate 4 false := by
    refine vector_ext_fin fun g => ?_
    rw [settledLane_running, plannedLane_inputState,
      decide_eq_false (show (lostLaneRecord state format _).inputState ≠ .locked from hstate)]
    simp
  rw [appliedLane_eq] at hq
  rw [takenAtLoss_lane hsc, appliedLane_eq, hr, show (plannedLane k.plan _).queues = _ from hq, plannedLane_plan]
  rfl

theorem takenAtLoss_stops (hstate : state ≠ .locked) {d : DestIx} (hd : trackScope d = laneScope n) :
    outputRuns (takenAtLoss n k state format s) d = false := by
  rw [outputRuns_lane (trackPlace_eq_lane_of_scope hd), takenAtLoss_lane_eq hsc format s hstate]
  simp [lostLaneRecord]

/-- The record of a destination as it acts on a latched entry at the loss: stopped on the lost lane, else as it was. -/
theorem takenAtLoss_settledRecord (hstate : state ≠ .locked) (d : DestIx) :
    settledRecord k.scope (takenAtLoss n k state format s) d (lostState n state format s).dests[d] =
      if d.val / 16 = n.val then stopRecord s.dests[d] else s.dests[d] := by
  rw [lostState_dests, hsc]
  by_cases hd : d.val / 16 = n.val
  · have hs : trackScope d = laneScope n := (trackScope_eq_laneScope_iff d n).2 hd
    rw [settledRecord_stopped hs (takenAtLoss_stops hsc format s hstate hs), if_pos hd, stopRecord_stopRecord]
  · rw [settledRecord_of_ne (by rwa [ne_eq, trackScope_eq_laneScope_iff]), if_neg hd]

end

/-- The owner hears of a take applied at the loss exactly where it would have heard before the loss: the lost lane itself was
LOCKED, and its reply is purged after (R160, R165). -/
theorem takenAtLoss_replies {n : LaneIx} {s : State} (hlock : (s.lanes[n]).inputState = .locked) (k : Take)
    (state : InputState) (format : Option Format) :
    (takenAtLoss n k state format s).replies = (s.applied k).replies
      ∧ (takenAtLoss n k state format s).droppedApplied = (s.applied k).droppedApplied := by
  refine applyTake_replies (or_congr_right (exists_congr fun m => and_congr_right fun _ => ?_)) rfl rfl rfl rfl
  by_cases hm : m = n
  · subst hm
    simp only [hlock, or_true]
  · rw [lostState_lane_ne n state format s hm]
    simp only [Option.some.injEq, Ne.symm hm, or_false]

theorem takenAtLoss_latchedActed {n : LaneIx} {k : Take} {s : State} (hsc : k.scope = laneScope n)
    (hcons : s.outputsConsistent) (state : InputState) (format : Option Format) :
    (takenAtLoss n k state format s).latchedActed k := by
  refine applyTake_latchedActed _ _ _ fun d hd hr => ?_
  rw [hsc, ne_eq, trackScope_eq_laneScope_iff] at hd
  rw [lostState_outputRuns, if_neg hd] at hr
  rw [lostState_dests, if_neg hd]
  exact ⟨(still_of_outputsConsistent hcons hr).1, (still_of_outputsConsistent hcons hr).2.1⟩

theorem takenAtLoss_latchedEntered {n : LaneIx} {k : Take} (hsc : k.scope = laneScope n) {state : InputState}
    (hstate : state ≠ .locked) (format : Option Format) (s : State) :
    s.latchedEntered (takenAtLoss n k state format s) k := by
  intro d hd hk
  obtain ⟨e, he⟩ := latchedEntry_of_mem hk
  rw [hsc] at hd
  refine ⟨stopRecord s.dests[d], ?_, ?_⟩
  · rw [takenAtLoss_stops hsc format s hstate hd]
    exact stopRecord_stoppedFrom _
  · refine (applyTake_dests_latched _ _ _ he).trans ?_
    rw [← takenAtLoss, takenAtLoss_settledRecord hsc format s hstate, if_pos ((trackScope_eq_laneScope_iff d n).1 hd),
      takenAtLoss, applyTake_entries, he, applyTake_sources]
    rfl

/-- Lane loss with a take pending on the lane: it is applied after the groups have stopped, before the replies are purged
(R157 to R160, R165, R166). -/
theorem closeLoss_lostLaneTaking {n : LaneIx} {k : Take} {state : InputState} {s : State} {g : Lane → Lane}
    (hg : changesInputOnly g) (hsc : k.scope = laneScope n) (hlock : (s.lanes[n]).inputState = .locked)
    (hstate : state ≠ .locked) (hcons : s.outputsConsistent) (format : Option Format) :
    s.lostLaneTaking n k (closeLoss n g (takenAtLoss n k state format s)) := by
  have hlane := takenAtLoss_lane_eq hsc format s hstate
  have hrun := closeLoss_outputRuns hg n (takenAtLoss n k state format s)
  obtain ⟨hrep, hdrop⟩ := takenAtLoss_replies hlock k state format
  refine ⟨?_, applyTake_take .., fun d => ?_, ?_, fun d hd => ?_, ?_, ?_, ?_, hdrop, ?_, fun i => ?_⟩
  · refine closeLoss_lostBlocks (state := state) (format := format) hg (applyTake_sources ..)
      (applyTake_ports_of_lane hsc ..) (applyTake_ref ..) (fun m hm => takenAtLoss_lane_ne hsc format s hm) ?_ ?_ ?_
      (applyTake_straps ..) (applyTake_unanswered ..)
    · rw [takenAtLoss_lane hsc]
      exact appliedLane_quiet (lostLaneRecord_quiet ..) _
    · rw [hlane]
      rfl
    · rw [hlane]
      rfl
  · rw [entryFor_eq]
    exact applyTake_entries ..
  · rw [closeLoss_lane, hg, hlane]
    rfl
  · have hrec := (applyTake_dests_unlatched (some n) k (lostState n state format s)
      ((latchedEntry_eq_none_iff _ _).2 hd)).trans (takenAtLoss_settledRecord hsc format s hstate d)
    change if _ then ((takenAtLoss n k state format s).dests[d]).stoppedFrom _ else
      (takenAtLoss n k state format s).dests[d] = _
    rw [takenAtLoss, hrec]
    split
    · exact stopRecord_stoppedFrom _
    · rfl
  · exact latchedActed_congr (t := takenAtLoss n k state format s) rfl hrun (fun _ _ => rfl)
      (takenAtLoss_latchedActed hsc hcons state format)
  · exact latchedEntered_congr (t := takenAtLoss n k state format s) rfl rfl hrun (fun _ _ => rfl)
      (takenAtLoss_latchedEntered hsc hstate format s)
  · rw [closeLoss_replies, hrep]
  · rw [closeLoss_lane, hg, hlane, hrep]
    rfl
  · refine (congrArg (fun u : Vector (List UndoRecord) 10 => u[i]) (applyTake_undo (some n) k
      (lostState n state format s))).trans ?_
    rw [pushUndo_undo, hsc, scopePlan_laneScope, lostState_lane]
    rfl

end Sys2Proof.Machine
end

section
/-! The three ways of lane loss and the frame starts of a lane: O7, O8, O9, O40. -/

namespace Sys2Proof.Machine

/-! ### The three ways of lane loss (R1, R2, R4) -/

/-- A frame opened with line count 0, on the lane (R2). -/
def openedLane (l : Lane) : Lane :=
  { l with frameOpen := true, lineCount := 0 }

/-- A lane whose frame a 1121st line closes, that line then passed on (R2, R9). -/
def closedLane (blanking : List Word) (l : Lane) : Lane :=
  { l with frameOpen := false, lineCount := 0, linkOut := blanking }

theorem silenceLane_changesInputOnly : changesInputOnly silenceLane := fun _ => rfl

theorem openedLane_changesInputOnly : changesInputOnly openedLane := fun _ => rfl

theorem closedLane_changesInputOnly (blanking : List Word) : changesInputOnly (closedLane blanking) := fun _ => rfl

theorem exec_frameStart {s : State} (hs : s.resetHeld = false) (n : LaneIx) (timing : Option Format) :
    exec (.frameStart n timing) s = .next (frameStart n timing s) := by
  rw [exec]
  exact powered_on hs _

theorem frameStart_acquiring {n : LaneIx} {s : State} (h : (s.lanes[n]).inputState = .acquiring)
    (timing : Option Format) :
    frameStart n timing s = if (s.lanes[n]).frameOpen then closeAcquiring n (classify s.lanes[n] timing) s
      else openFrame n s := by
  simp only [frameStart, h]

theorem frameStart_locked {n : LaneIx} {s : State} (h : (s.lanes[n]).inputState = .locked)
    (hf : (s.lanes[n]).frameOpen = true) (timing : Option Format) :
    frameStart n timing s = closeLocked n (classify s.lanes[n] timing) s := by
  simp only [frameStart, h, hf, if_true]

section
variable {n : LaneIx} {s : State} (hs : s.resetHeld = false) (hlock : (s.lanes[n]).inputState = .locked)
include hs hlock

/-- The loss of a LOCKED lane's signal (R1). -/
theorem exec_linkSignalLost_locked :
    exec (.linkSignalLost n) s =
      .next (closeLoss n silenceLane (applyAtLoss n (lostState n .noSignal none (setSignal n false s)))) := by
  rw [exec_linkSignalLost hs, signalLost_locked (by rw [setSignal_lane]; exact hlock), laneLoss_eq]
  rfl

/-- A frame start that closes a frame other than of the locked format (R2, R4). -/
theorem exec_frameStart_loss (hf : (s.lanes[n]).frameOpen = true) {timing : Option Format}
    (hne : (s.lanes[n]).lineCount < 1120 ∨ timing ≠ (s.lanes[n]).format ∨ timing = none) :
    exec (.frameStart n timing) s =
      .next (closeLoss n openedLane (applyAtLoss n (lostState n .acquiring (classify s.lanes[n] timing) s))) := by
  have hclass : ¬ ((classify s.lanes[n] timing).isSome = true ∧ classify s.lanes[n] timing = (s.lanes[n]).format) := by
    rintro ⟨hsome, heq⟩
    unfold classify at hsome heq
    split at hsome
    · simp at hsome
    · rename_i hl
      rw [if_neg hl] at heq
      rcases hne with h | h | h
      · exact hl h
      · exact h heq
      · simp [h] at hsome
  rw [exec_frameStart hs, frameStart_locked hlock hf, closeLocked, if_neg hclass, laneLoss_eq]
  rfl

/-- A 1121st line of a LOCKED lane (R2, R4). -/
theorem exec_inputCarriageLine_loss (hf : (s.lanes[n]).frameOpen = true) (hl : 1120 ≤ (s.lanes[n]).lineCount)
    (blanking : List Word) :
    exec (.inputCarriageLine n blanking) s =
      .next (closeLoss n (closedLane blanking) (applyAtLoss n (lostState n .acquiring none s))) := by
  have hlong : longFrame n s = closeFrame n (laneLoss n .acquiring none s) := by simp only [longFrame, hlock]
  rw [exec_inputCarriageLine hs, carriageLine_long (by simp [-Fin.getElem_fin, hlock]) hf hl, hlong, laneLoss_eq,
    bypassLine, closeFrame, State.modifyLane_modifyLane]
  rfl

end

theorem applyAtLoss_none {n : LaneIx} {s : State} (h : ∀ k ∈ s.take, k.state = .pending → k.scope.val ≠ n.val)
    (state : InputState) (format : Option Format) :
    applyAtLoss n (lostState n state format s) = lostState n state format s := by
  have hnone : pendingOn (lostState n state format s) (laneScope n) = none := by
    refine pendingOn_eq_none fun k hk hp => ?_
    rw [ne_eq, eq_laneScope_iff]
    exact h k hk hp
  simp only [applyAtLoss, hnone]

theorem applyAtLoss_some {n : LaneIx} {k : Take} {s : State} (hk : s.take = some k) (hp : k.state = .pending)
    (hsc : k.scope = laneScope n) (state : InputState) (format : Option Format) :
    applyAtLoss n (lostState n state format s) = takenAtLoss n k state format s := by
  have hsome : pendingOn (lostState n state format s) (laneScope n) = some k := by
    rw [← hsc]
    exact pendingOn_eq_some hk hp
  simp only [applyAtLoss, hsome, takenAtLoss]

/-! ### The pin of a lane that loses its signal -/

theorem lostBlocks_of_setSignal {n : LaneIx} {on : Bool} {s t : State} (h : (setSignal n on s).lostBlocks n t) :
    s.lostBlocks n t := by
  obtain ⟨hsrc, hports, href, hne, hrest⟩ := h
  refine ⟨hsrc, hports, href, fun m hm => ?_, hrest⟩
  rw [hne m hm, setSignal, State.modifyLane_lanes, modifyAt_getElem_ne _ (Ne.symm hm)]

theorem lostLane_of_setSignal {n : LaneIx} {on : Bool} {s t : State} (h : (setSignal n on s).lostLane n t) :
    s.lostLane n t := by
  obtain ⟨hb, hd, hr, hp, hc, hrest⟩ := h
  rw [setSignal_lane] at hp hc
  exact ⟨lostBlocks_of_setSignal hb, hd, hr, hp, hc, hrest⟩

theorem applied_setSignal (n : LaneIx) (on : Bool) (s : State) (k : Take) :
    ((setSignal n on s).applied k).replies = (s.applied k).replies
      ∧ ((setSignal n on s).applied k).droppedApplied = (s.applied k).droppedApplied := by
  have hin (m : LaneIx) : ((setSignal n on s).lanes[m]).inputState = (s.lanes[m]).inputState :=
    modifyAt_proj Lane.inputState (fun _ => by rfl) _ _ _
  have hr : (setSignal n on s).replies = s.replies := rfl
  constructor
  all_goals
    simp only [State.applied, hin, hr]
    split <;> rfl

theorem lostLaneTaking_of_setSignal {n : LaneIx} {k : Take} {on : Bool} {s t : State}
    (h : (setSignal n on s).lostLaneTaking n k t) : s.lostLaneTaking n k t := by
  obtain ⟨hrep, hdrop⟩ := applied_setSignal n on s k
  obtain ⟨hb, ht, he, hp, hd, hact, hent, hr, hdr, hc, hu⟩ := h
  rw [setSignal_lane] at hp hc
  rw [hrep] at hr hc
  simp only [setSignal_lane] at hu
  exact ⟨lostBlocks_of_setSignal hb, ht, he, hp, hd, hact, hent, hr, hdr.trans hdrop, hc, hu⟩

theorem outputsConsistent_setSignal {s : State} (h : s.outputsConsistent) (n : LaneIx) (on : Bool) :
    (setSignal n on s).outputsConsistent := by
  have hruns (d : DestIx) : outputRuns (setSignal n on s) d = outputRuns s d :=
    outputRuns_congr_running (t := setSignal n on s) (s := s)
      (fun _ => modifyAt_proj Lane.running (fun _ => by rfl) _ _ _) (fun _ => rfl) d
  obtain ⟨hl, hp, hd⟩ := h
  refine ⟨fun m g hr => ?_, hp, fun d => by rw [hruns]; exact hd d⟩
  by_cases hm : m = n
  · subst hm
    rw [setSignal_lane] at hr ⊢
    exact hl m g hr
  · rw [setSignal, State.modifyLane_lanes, modifyAt_getElem_ne _ (Ne.symm hm)] at hr ⊢
    exact hl m g hr

/-! ### The input record of a lost lane -/

/-- What a lost lane's input record is before the end of the loss: the state and format it leaves LOCKED for, and a parsed line
that was not built has left in bypass (R8, R14). -/
theorem lossRecord {n : LaneIx} {state : InputState} {format : Option Format} {s v : State}
    (hlane : ∃ plan, v.lanes[n] = { lostLaneRecord state format s.lanes[n] with plan := plan }) (g : Lane → Lane) :
    ∃ l : Lane, (closeLoss n g v).lanes[n] = g l ∧ l.inputState = state ∧ l.format = format
      ∧ l.linkSignal = (s.lanes[n]).linkSignal
      ∧ l.linkOut = (s.lanes[n]).awaiting.elim (s.lanes[n]).linkOut AwaitingBuild.blanking := by
  obtain ⟨plan, hl⟩ := hlane
  refine ⟨_, closeLoss_lane n g v, ?_⟩
  rw [hl]
  refine ⟨rfl, rfl, rfl, ?_⟩
  change (match (s.lanes[n]).awaiting with
    | some a => a.blanking
    | none => (s.lanes[n]).linkOut) = _
  cases (s.lanes[n]).awaiting <;> rfl

theorem lossRecord_lostState (n : LaneIx) (state : InputState) (format : Option Format) (s : State) :
    ∃ plan, (lostState n state format s).lanes[n] = { lostLaneRecord state format s.lanes[n] with plan := plan } :=
  ⟨_, lostState_lane ..⟩

theorem lossRecord_taken {n : LaneIx} {k : Take} (hsc : k.scope = laneScope n) {state : InputState}
    (hstate : state ≠ .locked) (format : Option Format) (s : State) :
    ∃ plan, (takenAtLoss n k state format s).lanes[n] =
      { lostLaneRecord state format s.lanes[n] with plan := plan } :=
  ⟨_, takenAtLoss_lane_eq hsc format s hstate⟩

/-- Settles O7: each of the three ways ends a loss without a pending take. -/
theorem laneLossReachesEveryBlock : Obligations.LaneLossReachesEveryBlock := by
  intro n s hs hlock hnone
  refine ⟨?_, fun timing hf hne => ?_, fun blanking hf hl => ?_⟩
  · refine ⟨_, exec_linkSignalLost_locked hs hlock, ?_⟩
    rw [applyAtLoss_none (s := setSignal n false s) hnone]
    obtain ⟨l, hlane, -, -, hsig, -⟩ := lossRecord (lossRecord_lostState n .noSignal none (setSignal n false s)) silenceLane
    refine ⟨lostLane_of_setSignal (closeLoss_lostLane n _ _ _ silenceLane_changesInputOnly), ?_⟩
    rw [hlane]
    exact ⟨rfl, rfl, rfl, rfl, rfl, hsig.trans (by rw [setSignal_lane])⟩
  · refine ⟨_, exec_frameStart_loss hs hlock hf hne, ?_⟩
    rw [applyAtLoss_none hnone]
    obtain ⟨l, hlane, hst, hfm, -, hout⟩ :=
      lossRecord (lossRecord_lostState n .acquiring (classify s.lanes[n] timing) s) openedLane
    refine ⟨closeLoss_lostLane n _ _ _ openedLane_changesInputOnly, ?_⟩
    rw [hlane]
    exact ⟨hst, hfm, rfl, rfl, hout⟩
  · refine ⟨_, exec_inputCarriageLine_loss hs hlock hf hl blanking, ?_⟩
    rw [applyAtLoss_none hnone]
    obtain ⟨l, hlane, hst, hfm, -, -⟩ := lossRecord (lossRecord_lostState n .acquiring none s) (closedLane blanking)
    refine ⟨closeLoss_lostLane n _ _ _ (closedLane_changesInputOnly blanking), ?_⟩
    rw [hlane]
    exact ⟨hst, hfm, rfl, rfl, rfl⟩

/-- Settles O40: each of the three ways ends a loss that has applied the pending take. -/
theorem laneLossAppliesTake : Obligations.LaneLossAppliesTake := by
  intro n k s hs hlock hk hp hscv hcons
  have hsc : k.scope = laneScope n := (eq_laneScope_iff _ _).2 hscv
  refine ⟨?_, fun timing hf hne => ?_, fun blanking hf hl => ?_⟩
  · refine ⟨_, exec_linkSignalLost_locked hs hlock, ?_⟩
    rw [applyAtLoss_some (s := setSignal n false s) hk hp hsc]
    obtain ⟨l, hlane, -, -, hsig, -⟩ :=
      lossRecord (lossRecord_taken hsc (state := .noSignal) (by decide) none (setSignal n false s)) silenceLane
    refine ⟨lostLaneTaking_of_setSignal (closeLoss_lostLaneTaking silenceLane_changesInputOnly hsc
      (by rw [setSignal_lane]; exact hlock) (by decide) (outputsConsistent_setSignal hcons n false) none), ?_⟩
    rw [hlane]
    exact ⟨rfl, rfl, rfl, rfl, rfl, hsig.trans (by rw [setSignal_lane])⟩
  · refine ⟨_, exec_frameStart_loss hs hlock hf hne, ?_⟩
    rw [applyAtLoss_some hk hp hsc]
    obtain ⟨l, hlane, hst, hfm, -, hout⟩ :=
      lossRecord (lossRecord_taken hsc (state := .acquiring) (by decide) (classify s.lanes[n] timing) s) openedLane
    refine ⟨closeLoss_lostLaneTaking openedLane_changesInputOnly hsc hlock (by decide) hcons _, ?_⟩
    rw [hlane]
    exact ⟨hst, hfm, rfl, rfl, hout⟩
  · refine ⟨_, exec_inputCarriageLine_loss hs hlock hf hl blanking, ?_⟩
    rw [applyAtLoss_some hk hp hsc]
    obtain ⟨l, hlane, hst, hfm, -, -⟩ :=
      lossRecord (lossRecord_taken hsc (state := .acquiring) (by decide) none s) (closedLane blanking)
    refine ⟨closeLoss_lostLaneTaking (closedLane_changesInputOnly blanking) hsc hlock (by decide) hcons _, ?_⟩
    rw [hlane]
    exact ⟨hst, hfm, rfl, rfl, rfl⟩

end Sys2Proof.Machine
end

section
/-! Frame starts of an ACQUIRING lane, and of a LOCKED one that keeps its lock: O8, O9. -/

namespace Sys2Proof.Machine

/-- An input frame start changes the frame count unit alone (R139). -/
theorem inputFrameStart_eq (n : LaneIx) (s : State) :
    inputFrameStart n s = { s with ref := (inputFrameStart n s).ref } := by
  unfold inputFrameStart
  split <;> rfl

/-- The LEADER's count at an input frame start of a lane with a format, and the flags of its RC event (R139, R145). -/
theorem inputFrameStart_countedFrame {n : LaneIx} {s u : State} {f : Format} (href : u.ref = s.ref)
    (hf : (u.lanes[n]).format = some f) : s.countedFrame n (inputFrameStart n u) := by
  unfold State.countedFrame
  split
  · rename_i h
    have hu : inputFrameStart n u =
        rcEvent (some f) (u.modifyRef fun r => { r with count := nextCount r.count }) := by
      rw [inputFrameStart, if_pos (by rwa [href]), hf]
    rw [hu, ← href]
    refine ⟨rfl, rfl, fun m => ?_⟩
    change (updateAll _ _)[m] = _
    rw [updateAll_getElem_fin]
    change _ = (_ || (decide ((u.lanes[m]).inputState = .locked) && decide ((u.lanes[m]).format = (u.lanes[n]).format)))
    rw [hf]
    simp only [Option.isNone_some, Bool.false_or, State.modifyRef_lanes]
    rfl
  · rename_i h
    rw [inputFrameStart, if_neg (by rwa [href])]
    exact href

/-- Settles O8: by the open frame and by what the closing frame is seen as. -/
theorem frameStartWhileAcquiring : Obligations.FrameStartWhileAcquiring := by
  intro n timing s hs hacq seen
  have hclass : classify s.lanes[n] timing = seen := rfl
  rw [exec_frameStart hs, frameStart_acquiring hacq, hclass]
  refine ⟨fun hf => ?_, fun hf hne => ?_, fun hf hsome hsame => ?_⟩
  · simp only [hf, Bool.false_eq_true, if_false]
    rfl
  · have hno : ¬ (seen.isSome = true ∧ seen = (s.lanes[n]).format) := by
      rintro ⟨hsome, hsame⟩
      rcases hne with h | h
      · simp [h] at hsome
      · exact h hsame
    rw [if_pos hf, closeAcquiring, if_neg hno, setCandidate, openFrame, State.modifyLane_modifyLane]
    rfl
  · obtain ⟨f, hseen⟩ := Option.ne_none_iff_exists'.1 hsome
    rw [if_pos hf, closeAcquiring, if_pos ⟨by rw [hseen]; rfl, hsame⟩]
    have hlane : (lockLane n (openFrame n s)).lanes =
        modifyAt s.lanes n fun l => { openedLane l with inputState := .locked, firstFrame := true } := by
      simp only [lockLane, openFrame, State.modifyLane_modifyLane]
      rfl
    refine ⟨_, rfl, ?_, ?_, fun p => ?_, inputFrameStart_countedFrame (f := f) rfl ?_⟩
    · rw [inputFrameStart_eq]
      rfl
    · rw [inputFrameStart_eq, hlane]
      rfl
    · rw [inputFrameStart_eq]
      exact updateAll_getElem_fin ..
    · rw [hlane, modifyAt_getElem_self, ← hseen, hsame]
      rfl

/-! ### The evaluation at an input frame end (R47, R48) -/

theorem becomePresent_frame (x : Source) :
    (becomePresent x).validSpan = x.validSpan ∧ (becomePresent x).writeCount = x.writeCount
      ∧ (becomePresent x).buffer = x.buffer := by
  unfold becomePresent
  split <;> exact ⟨rfl, rfl, rfl⟩

theorem becomePresent_of_present {x : Source} (h : x.present = true) : becomePresent x = x :=
  if_pos h

/-- A source that becomes present begins its runs anew (R59). -/
theorem becomePresent_runs {x : Source} (h : x.present = false) :
    (becomePresent x).silentRun = 0 ∧ (becomePresent x).activeRun = 0 ∧ (becomePresent x).presentRun = 0 := by
  simp [becomePresent, h]

theorem evaluateGroups_lanes (n : LaneIx) (s : State) :
    (evaluateGroups n s).lanes = modifyAt s.lanes n fun l => { l with seen := Vector.replicate 4 false } := rfl

theorem evaluateGroups_sources (n : LaneIx) (s : State) (i : SourceIx) :
    (evaluateGroups n s).sources[i] =
      if trackPlace i = .lane n then
        (if (s.lanes[n]).seen[trackGroup i] then becomePresent s.sources[i] else becomeAbsent s.sources[i])
      else s.sources[i] :=
  updateAll_getElem_fin ..

/-- Settles O9: the input frame end, then the next input frame start. -/
theorem frameStartKeepsLock : Obligations.FrameStartKeepsLock := by
  intro n f s hs hlock hf hl hfmt
  have hclass : classify s.lanes[n] (some f) = some f := if_neg (by omega)
  rw [exec_frameStart hs, frameStart_locked hlock hf, hclass, closeLocked, if_pos ⟨rfl, hfmt.symm⟩]
  have hlane : (openFrame n (evaluateGroups n s)).lanes =
      modifyAt s.lanes n fun l => { l with frameOpen := true, lineCount := 0, seen := Vector.replicate 4 false } := by
    simp only [openFrame, State.modifyLane_lanes, evaluateGroups_lanes, modifyAt_modifyAt]
  refine ⟨_, rfl, ?_, ?_, fun g i hi => ?_, fun i hi => ?_, inputFrameStart_countedFrame (f := f) rfl ?_⟩
  · rw [inputFrameStart_eq]
    rfl
  · rw [inputFrameStart_eq, hlane, ← hf]
    rfl
  · have hp : trackPlace i = .lane n := trackPlace_eq_lane_of_scope (trackScope_of_group hi)
    have hsrc : (inputFrameStart n (openFrame n (evaluateGroups n s))).sources[i] =
        if (s.lanes[n]).seen[g] then becomePresent s.sources[i] else becomeAbsent s.sources[i] := by
      rw [inputFrameStart_eq]
      refine (evaluateGroups_sources n s i).trans ?_
      simp only [hp, if_true, trackGroup_eq hi]
    rw [hsrc]
    by_cases hseen : (s.lanes[n]).seen[g] = true
    · simp only [if_pos hseen]
      obtain ⟨hv, hw, hb⟩ := becomePresent_frame s.sources[i]
      exact ⟨becomePresent_present _, hv, hw, hb, becomePresent_of_present, becomePresent_runs⟩
    · simp only [if_neg hseen]
      exact becomeAbsent_lostFrom _
  · rw [inputFrameStart_eq]
    refine (evaluateGroups_sources n s i).trans (if_neg ?_)
    rwa [trackPlace_eq_lane_iff]
  · rw [hlane, modifyAt_getElem_self]
    exact hfmt

end Sys2Proof.Machine
end

section
/-! The build of an output line: what each placement leaves of the line's words and room (R109 to R114). -/

namespace Sys2Proof.Machine

/-! ### The words of a line being built -/

/-- A line of `budget` words that holds these words so far, what is left being its room (R109). -/
def LineFill.holds (f : LineFill) (budget : Nat) (words : List Word) : Prop :=
  f.placed.flatten = words ∧ words.length + f.room = budget

theorem place_holds {f : LineFill} {budget : Nat} {words packet : List Word} (h : f.holds budget words)
    (hp : packet.length ≤ f.room) : (place packet f).holds budget (words ++ packet) := by
  obtain ⟨hw, hr⟩ := h
  rw [place, if_pos hp]
  refine ⟨by simp [hw], ?_⟩
  simp only [List.length_append]
  omega

theorem place_of_long {f : LineFill} {packet : List Word} (hp : ¬ packet.length ≤ f.room) : place packet f = f :=
  if_neg hp

theorem buildPacket_length (kind : Byte) (payload : List Word) :
    (buildPacket kind payload).length = payload.length + 3 := by
  simp [buildPacket]

/-! ### The frame mark (R24, R110, R144) -/

theorem markDue_eq (r : Reference) (n : LaneIx) :
    markDue r n = if r.role = .leader then (if inSet r.markOut n then some r.count else none) else r.pendingMark[n] := by
  unfold markDue
  cases r.role <;> rfl

/-- The words of a frame mark packet (02, worked example). -/
theorem markPacket_eq (c : Fin 60000) :
    markPacket c =
      [0xC3A5, 0x5001, BitVec.ofNat 16 c.val, BitVec.ofNat 16 (65536 - (0xC3A5 + 0x5001 + c.val) % 65536)] := by
  have hc := c.isLt
  have hhead : bytes 0x50 (BitVec.ofNat 8 [toWord c.val].length) = (0x5001 : Word) := by
    rw [List.length_singleton]
    decide
  have hsum : -(wordSum [leadWord, 0x5001, toWord c.val]) =
      BitVec.ofNat 16 (65536 - (0xC3A5 + 0x5001 + c.val) % 65536) := by
    apply BitVec.eq_of_toNat_eq
    simp only [wordSum, List.foldr, leadWord, toWord, BitVec.toNat_neg, BitVec.toNat_add, BitVec.ofNat_eq_ofNat,
      BitVec.toNat_ofNat]
    omega
  rw [markPacket, buildPacket, hhead]
  exact congrArg (fun w => [0xC3A5, 0x5001, BitVec.ofNat 16 c.val, w]) hsum

/-- The words that the mark of output line j puts first on the line: the mark that is due, where it fits. -/
theorem placeMark_holds {budget : Nat} (hb : 4 ≤ budget) (r : Reference) (n : LaneIx) (j : Nat) :
    (placeMark r n j ⟨budget, []⟩).holds budget ((if j = 0 then markDue r n else none).elim [] markPacket) := by
  have hempty : (⟨budget, []⟩ : LineFill).holds budget [] := ⟨rfl, by simp⟩
  unfold placeMark
  by_cases hj : j = 0
  · simp only [if_pos hj]
    cases markDue r n with
    | none => exact hempty
    | some c => exact place_holds hempty (by simpa [markPacket_eq] using hb)
  · simp only [if_neg hj]
    exact hempty

/-- On a line of any budget the mark stays within it. -/
theorem placeMark_holds_some (budget : Nat) (r : Reference) (n : LaneIx) (j : Nat) :
    ∃ words, (placeMark r n j ⟨budget, []⟩).holds budget words := by
  have hempty : (⟨budget, []⟩ : LineFill).holds budget [] := ⟨rfl, by simp⟩
  unfold placeMark
  split
  · split
    · rename_i c _
      by_cases hp : (markPacket c).length ≤ budget
      · exact ⟨_, place_holds hempty hp⟩
      · exact ⟨_, by rw [place_of_long hp]; exact hempty⟩
    · exact ⟨_, hempty⟩
  · exact ⟨_, hempty⟩

/-! ### Sound packets (R21 to R23, R111) -/

theorem vector4_toList {α : Type} (v : Vector α 4) :
    v.toList = [v[(0 : Fin 4)], v[(1 : Fin 4)], v[(2 : Fin 4)], v[(3 : Fin 4)]] := by
  refine List.ext_getElem (by simp) fun i h _ => ?_
  have hi : i < 4 := by simpa using h
  interval_cases i <;> rfl

theorem fullPair_eq (o : OutSample) :
    fullPair o = [BitVec.ofNat 16 (o.value.toNat / 256),
      BitVec.ofNat 16 (o.value.toNat % 256 * 256 + (if o.valid then 1 else 0))] := by
  have hv := o.value.isLt
  have hhigh : pairHigh o.value = BitVec.ofNat 16 (o.value.toNat / 256) := by
    apply BitVec.eq_of_toNat_eq
    simp only [pairHigh, BitVec.extractLsb'_toNat, BitVec.toNat_ofNat, Nat.shiftRight_eq_div_pow]
  have hlow : pairLow o.value o.valid =
      BitVec.ofNat 16 (o.value.toNat % 256 * 256 + (if o.valid then 1 else 0)) := by
    rw [pairLow, bytes_eq_ofNat, BitVec.extractLsb'_toNat, Nat.mul_comm 256]
    cases o.valid <;> rfl
  rw [fullPair, hhigh, hlow]

theorem compactWord_eq (o : OutSample) :
    compactWord o = BitVec.ofNat 16 ((if o.value.toInt < 0 then 32768 else 0)
      + 16 * compactCode (scaledMagnitude o.value) + (if o.valid then 1 else 0)) := by
  have hsign : bitNat (o.value.getLsbD 23) * 32768 = if o.value.toInt < 0 then 32768 else 0 := by
    have hmsb : o.value.getLsbD 23 = decide (o.value.toInt < 0) := by
      rw [← BitVec.msb_eq_toInt, BitVec.msb_eq_getLsbD_last]
    rw [hmsb]
    by_cases h : o.value.toInt < 0 <;> simp [h, bitNat]
  rw [compactWord, toWord, hsign, Nat.mul_comm _ 16]
  cases o.valid <;> rfl

/-- The two EMBED modes are told apart by full grade (R111). -/
theorem sampleWords_modeGrade {mode : GroupMode} (h : embeds mode = true) (o : OutSample) :
    sampleWords (modeGrade mode) o =
      if decide (mode = .embedFull) then [BitVec.ofNat 16 (o.value.toNat / 256),
        BitVec.ofNat 16 (o.value.toNat % 256 * 256 + (if o.valid then 1 else 0))]
      else [BitVec.ofNat 16 ((if o.value.toInt < 0 then 32768 else 0)
        + 16 * compactCode (scaledMagnitude o.value) + (if o.valid then 1 else 0))] := by
  cases mode with
  | pass => simp [embeds] at h
  | strip => simp [embeds] at h
  | embedFull => exact fullPair_eq o
  | embedCompact => exact congrArg (fun w => [w]) (compactWord_eq o)

theorem soundKind_modeGrade {mode : GroupMode} (h : embeds mode = true) (g : GroupIx) :
    soundKind g (modeGrade mode) =
      BitVec.ofNat 8 ((if decide (mode = .embedFull) then 0x41 else 0x49) + g.val) := by
  cases mode with
  | pass => simp [embeds] at h
  | strip => simp [embeds] at h
  | embedFull => rfl
  | embedCompact => rfl

/-- The packet of a group's instants, as the statements write it (R20 to R23, R111). -/
theorem groupPacket_eq_soundWords {mode : GroupMode} (h : embeds mode = true) {instants : List Instant}
    (hne : instants ≠ []) (g : GroupIx) (phase : Nat) :
    groupPacket g (modeGrade mode) phase instants = soundWords g (decide (mode = .embedFull)) phase instants := by
  have hsamples (x : Instant) : x.toList.flatMap (sampleWords (modeGrade mode)) =
      [x[(0 : Fin 4)], x[(1 : Fin 4)], x[(2 : Fin 4)], x[(3 : Fin 4)]].flatMap fun o =>
        if decide (mode = .embedFull) then [BitVec.ofNat 16 (o.value.toNat / 256),
          BitVec.ofNat 16 (o.value.toNat % 256 * 256 + (if o.valid then 1 else 0))]
        else [BitVec.ofNat 16 ((if o.value.toInt < 0 then 32768 else 0)
          + 16 * compactCode (scaledMagnitude o.value) + (if o.valid then 1 else 0))] := by
    rw [vector4_toList, funext (sampleWords_modeGrade h)]
  rw [groupPacket, soundPayload, soundWords, if_neg hne, soundKind_modeGrade h, funext hsamples, attributeWord, toWord,
    Nat.mul_comm phase]

theorem sampleWords_length (grade : Grade) (o : OutSample) : (sampleWords grade o).length = gradeWords grade := by
  cases grade <;> rfl

theorem groupPacket_length (g : GroupIx) (grade : Grade) (phase : Nat) (instants : List Instant) :
    (groupPacket g grade phase instants).length = 4 + 4 * gradeWords grade * instants.length := by
  have hx (x : Instant) : (x.toList.flatMap (sampleWords grade)).length = 4 * gradeWords grade := by
    simp only [vector4_toList, List.flatMap_cons, List.flatMap_nil, List.length_append, sampleWords_length,
      List.length_nil]
    omega
  rw [groupPacket, buildPacket_length, soundPayload, List.length_cons, List.length_flatMap]
  simp only [hx, List.map_const', List.sum_replicate, smul_eq_mul]
  rw [Nat.mul_comm instants.length]
  omega

/-! ### The round of grants (R111, R112) -/

/-- The grant of a group's turn: none where the group does not embed. -/
def turnGrant (plan : LanePlan) (g : GroupIx) (depth room : Nat) : Nat :=
  if embeds plan.modes[g] then grant depth (gradeWords (modeGrade plan.modes[g])) room else 0

/-- What a group's turn leaves of the room. -/
def roomAfterTurn (plan : LanePlan) (g : GroupIx) (m room : Nat) : Nat :=
  if m = 0 then room else room - (4 + 4 * gradeWords (modeGrade plan.modes[g]) * m)

/-- How many instants a round grants a group. -/
def grantedTo (grants : List (GroupIx × Nat)) (g : GroupIx) : Nat :=
  ((grants.find? fun x => decide (x.1 = g)).map Prod.snd).getD 0

/-- The words of a group's turn that takes its m oldest instants. -/
def turnWords (plan : LanePlan) (phase : Nat) (queue : List Instant) (g : GroupIx) (m : Nat) : List Word :=
  soundWords g (decide (plan.modes[g] = .embedFull)) phase (queue.take m)

theorem roundGrants_cons (plan : LanePlan) (depth : GroupIx → Nat) (g : GroupIx) (rest : List GroupIx) (room : Nat) :
    roundGrants plan depth (g :: rest) room =
      (g, turnGrant plan g (depth g) room) ::
        roundGrants plan depth rest (roomAfterTurn plan g (turnGrant plan g (depth g) room) room) := by
  rw [roundGrants]
  cases h : plan.modes[g] <;> simp only [turnGrant, roomAfterTurn, h, embeds, modeGrade, gradeWords, grant] <;> rfl

theorem roundGrants_fst (plan : LanePlan) (depth : GroupIx → Nat) (gs : List GroupIx) (room : Nat) :
    (roundGrants plan depth gs room).map Prod.fst = gs := by
  induction gs generalizing room with
  | nil => rfl
  | cons g rest ih => rw [roundGrants_cons, List.map_cons, ih]

theorem grantedTo_cons (g h : GroupIx) (m : Nat) (rest : List (GroupIx × Nat)) :
    grantedTo ((g, m) :: rest) h = if g = h then m else grantedTo rest h := by
  by_cases hg : g = h <;> simp [grantedTo, hg]

theorem grantedTo_of_not_mem {grants : List (GroupIx × Nat)} {g : GroupIx} (h : g ∉ grants.map Prod.fst) :
    grantedTo grants g = 0 := by
  have hnone : grants.find? (fun x => decide (x.1 = g)) = none := by
    rw [List.find?_eq_none]
    rintro x hx hxg
    simp only [decide_eq_true_eq] at hxg
    exact h (hxg ▸ List.mem_map_of_mem hx)
  rw [grantedTo, hnone]
  rfl

/-- In a round each group has its one turn. -/
theorem grantedTo_of_mem {grants : List (GroupIx × Nat)} (hnd : (grants.map Prod.fst).Nodup) {x : GroupIx × Nat}
    (hx : x ∈ grants) : grantedTo grants x.1 = x.2 := by
  induction grants with
  | nil => cases hx
  | cons y rest ih =>
    rw [List.map_cons, List.nodup_cons] at hnd
    obtain ⟨hy, hrest⟩ := hnd
    obtain ⟨g, m⟩ := y
    rw [grantedTo_cons]
    rcases List.mem_cons.1 hx with rfl | h
    · rw [if_pos rfl]
    · rw [if_neg (show ¬ g = x.1 from fun e => hy (e ▸ List.mem_map_of_mem (a := x) h)), ih hrest h]

theorem turnGrant_le_depth (plan : LanePlan) (g : GroupIx) (depth room : Nat) : turnGrant plan g depth room ≤ depth := by
  unfold turnGrant grant
  split
  · exact min_le_left ..
  · exact Nat.zero_le _

/-- A granted packet fits into the room (R111). -/
theorem turnGrant_fits {plan : LanePlan} {g : GroupIx} {depth room : Nat} (h : 1 ≤ turnGrant plan g depth room) :
    4 + 4 * gradeWords (modeGrade plan.modes[g]) * turnGrant plan g depth room ≤ room := by
  have hle : turnGrant plan g depth room ≤ (room - 4) / (4 * gradeWords (modeGrade plan.modes[g])) := by
    unfold turnGrant grant
    split
    · exact (min_le_right ..).trans (min_le_right ..)
    · exact Nat.zero_le _
  have hmul := (Nat.le_div_iff_mul_le (by cases plan.modes[g] <;> decide)).1 hle
  have hpos : 1 ≤ gradeWords (modeGrade plan.modes[g]) := by cases plan.modes[g] <;> decide
  have hroom : 1 ≤ turnGrant plan g depth room * (4 * gradeWords (modeGrade plan.modes[g])) :=
    Nat.mul_pos h (by omega)
  rw [Nat.mul_comm] at hmul hroom
  omega

/-- One group's turn: its oldest instants leave the queue for the line, as many as it is granted. -/
theorem placeGroup_holds {f : LineFill} {budget : Nat} {words : List Word} (h : f.holds budget words)
    (plan : LanePlan) (phase : Nat) (queues : Vector (List Instant) 4) (g : GroupIx) :
    let m := turnGrant plan g (queues[g]).length f.room
    let out := placeGroup plan phase (queues, f) g
    out.1 = modifyAt queues g (List.drop m) ∧ out.2.holds budget (words ++ turnWords plan phase queues[g] g m)
      ∧ out.2.room = roomAfterTurn plan g m f.room := by
  intro m out
  by_cases hm : 1 ≤ m
  · have hemb : embeds plan.modes[g] = true := by
      by_contra hno
      simp only [m, turnGrant, if_neg hno] at hm
      omega
    have hgrant : grant (queues[g]).length (gradeWords (modeGrade plan.modes[g])) f.room = m := (if_pos hemb).symm
    have hlen : ((queues[g]).take m).length = m := List.length_take_of_le (turnGrant_le_depth ..)
    have hne : (queues[g]).take m ≠ [] := by
      intro e
      rw [e, List.length_nil] at hlen
      omega
    have hout : out = (modifyAt queues g (List.drop m),
        place (groupPacket g (modeGrade plan.modes[g]) phase ((queues[g]).take m)) f) := by
      simp only [out, placeGroup, hgrant]
      rw [if_pos ⟨hemb, hm⟩]
    have hfits : (groupPacket g (modeGrade plan.modes[g]) phase ((queues[g]).take m)).length ≤ f.room := by
      rw [groupPacket_length, hlen]
      exact turnGrant_fits hm
    rw [hout]
    refine ⟨rfl, ?_, ?_⟩
    · rw [turnWords, ← groupPacket_eq_soundWords hemb hne]
      exact place_holds h hfits
    · rw [place, if_pos hfits, roomAfterTurn, if_neg (by omega), groupPacket_length, hlen]
  · have h0 : m = 0 := by omega
    have hout : out = (queues, f) := by
      have hno : ¬ (embeds plan.modes[g] = true ∧
          1 ≤ grant (queues[g]).length (gradeWords (modeGrade plan.modes[g])) f.room) := by
        rintro ⟨hemb, hg⟩
        exact hm (le_of_le_of_eq hg (if_pos hemb).symm)
      simp only [out, placeGroup]
      rw [if_neg hno]
    rw [hout, h0]
    refine ⟨?_, ?_, rfl⟩
    · simp [modifyAt]
    · simpa [turnWords, soundWords] using h

/-- A round of groups, each with its one turn: what the line and the queues hold after it (R111, R112). -/
theorem placeGroups_holds {gs : List GroupIx} (hnd : gs.Nodup) (plan : LanePlan) (phase : Nat)
    (start : Vector (List Instant) 4) {f : LineFill} {budget : Nat} {words : List Word} (h : f.holds budget words)
    (queues : Vector (List Instant) 4) (hq : ∀ g ∈ gs, queues[g] = start[g]) :
    let grants := roundGrants plan (fun g => (start[g]).length) gs f.room
    let out := gs.foldl (placeGroup plan phase) (queues, f)
    out.2.holds budget (words ++ grants.flatMap fun x => turnWords plan phase start[x.1] x.1 x.2)
      ∧ ∀ g : GroupIx, out.1[g] = (queues[g]).drop (grantedTo grants g) := by
  induction gs generalizing f words queues with
  | nil => exact ⟨by simpa [roundGrants] using h, fun g => rfl⟩
  | cons g rest ih =>
    rw [List.nodup_cons] at hnd
    obtain ⟨hg, hrest⟩ := hnd
    have hqg : queues[g] = start[g] := hq g (by simp)
    obtain ⟨hqueues, hholds, hroom⟩ := placeGroup_holds h plan phase queues g
    rw [hqg] at hqueues hholds hroom
    have hne {k : GroupIx} (hk : g ≠ k) : (placeGroup plan phase (queues, f) g).1[k] = queues[k] := by
      rw [hqueues, modifyAt_getElem_ne _ hk]
    obtain ⟨ihh, ihq⟩ := ih hrest hholds (placeGroup plan phase (queues, f) g).1 fun k hk => by
      rw [hne (fun e => hg (e ▸ hk)), hq k (by simp [hk])]
    rw [hroom] at ihh ihq
    simp only [List.foldl_cons, roundGrants_cons, List.flatMap_cons, ← List.append_assoc]
    refine ⟨ihh, fun k => (ihq k).trans ?_⟩
    rw [grantedTo_cons]
    by_cases hk : g = k
    · subst hk
      rw [if_pos rfl, grantedTo_of_not_mem (by rwa [roundGrants_fst]), List.drop_zero, hqueues, modifyAt_getElem_self]
    · rw [if_neg hk, hne hk]

theorem roundOrder_nodup (rotation : GroupIx) : (roundOrder rotation).Nodup := by
  revert rotation
  decide

end Sys2Proof.Machine
end

section
/-! The low class and the whole build of a line: O20, O24. -/

namespace Sys2Proof.Machine

/-! ### The low class (R39, R113, R114) -/

/-- The pass list offered in order: the entries that fit, and the number displaced (R113). -/
theorem offerEntries_holds (plan : LanePlan) (entries : List PassEntry) {f : LineFill} {budget : Nat}
    {words : List Word} (h : f.holds budget words) :
    let fit := fitEntries (entries.filter (offered plan)) f.room
    (offerEntries plan entries f).1.holds budget (words ++ fit.1.flatMap PassEntry.words)
      ∧ (offerEntries plan entries f).2 = fit.2 := by
  induction entries generalizing f words with
  | nil => exact ⟨by simpa [offerEntries, fitEntries] using h, rfl⟩
  | cons e rest ih =>
    by_cases ho : offered plan e = true
    · by_cases hl : e.words.length ≤ f.room
      · obtain ⟨ihh, ihd⟩ := ih (place_holds h hl)
        have hroom : (place e.words f).room = f.room - e.words.length := by rw [place, if_pos hl]
        rw [hroom] at ihh ihd
        simp only [offerEntries, List.filter_cons, ho, if_true, fitEntries, if_pos hl, List.flatMap_cons,
          ← List.append_assoc]
        exact ⟨ihh, ihd⟩
      · obtain ⟨ihh, ihd⟩ := ih h
        simp only [offerEntries, List.filter_cons, ho, if_true, fitEntries, if_neg hl]
        exact ⟨ihh, by rw [ihd]⟩
    · obtain ⟨ihh, ihd⟩ := ih h
      simp only [offerEntries, List.filter_cons, ho, Bool.false_eq_true, if_false]
      exact ⟨ihh, ihd⟩

/-- The reply's turn: the oldest reply for the lane leaves the queue for the line when it fits (R114). -/
theorem offerReply_holds (n : LaneIx) (replies : List Reply) {f : LineFill} {budget : Nat} {words : List Word}
    (h : f.holds budget words) :
    let reply := (oldestReply (laneScope n) replies).map replyPacket
    let last := (reply.filter fun r => decide (r.length ≤ f.room)).getD []
    (offerReply n replies f).2.holds budget (words ++ last)
      ∧ (offerReply n replies f).1 = if last ≠ [] then dropOldestReply (laneScope n) replies else replies := by
  unfold offerReply
  cases oldestReply (laneScope n) replies with
  | none => exact ⟨by simpa using h, rfl⟩
  | some r =>
    have hne : replyPacket r ≠ [] := by
      intro e
      simpa [replyPacket, buildPacket_length] using congrArg List.length e
    by_cases hl : (replyPacket r).length ≤ f.room
    · simp only [Option.map_some, Option.filter_some, decide_true, Option.getD_some, if_pos hne, hl,
        if_true]
      exact ⟨place_holds h hl, trivial⟩
    · simp only [Option.map_some, Option.filter_some, decide_false, Option.getD_none, hl,
        Bool.false_eq_true, if_false, ne_eq, not_true_eq_false, List.append_nil]
      exact ⟨h, trivial⟩

/-- On a BEFORE line the reply is offered first (R114); the entries kept are those the arbiter offers (R39, R113). -/
theorem lowWords_before {l : Lane} (h : l.replyTurn = .before) (passList : List PassEntry) (reply : Option (List Word))
    (room : Nat) :
    lowWords l passList reply room =
      let first := (reply.filter fun r => decide (r.length ≤ room)).getD []
      let fit := fitEntries (passList.filter (offered l.plan)) (room - first.length)
      ⟨first ++ fit.1.flatMap PassEntry.words, decide (first ≠ []), fit.2⟩ := by
  unfold lowWords
  rw [h]
  rfl

/-- On an AFTER line the entries are offered first. -/
theorem lowWords_after {l : Lane} (h : l.replyTurn = .after) (passList : List PassEntry) (reply : Option (List Word))
    (room : Nat) :
    lowWords l passList reply room =
      let fit := fitEntries (passList.filter (offered l.plan)) room
      let words := fit.1.flatMap PassEntry.words
      let last := (reply.filter fun r => decide (r.length ≤ room - words.length)).getD []
      ⟨words ++ last, decide (last ≠ []), fit.2⟩ := by
  unfold lowWords
  rw [h]
  rfl

theorem LineFill.holds.room_eq {f : LineFill} {budget : Nat} {words : List Word} (h : f.holds budget words) :
    f.room = budget - words.length := by
  have := h.2
  omega

theorem LineFill.holds.room_append {f g : LineFill} {budget : Nat} {words more : List Word} (h : f.holds budget words)
    (hg : g.holds budget (words ++ more)) : g.room = f.room - more.length := by
  rw [h.room_eq, hg.room_eq, List.length_append, Nat.sub_add_eq]

/-- The low class of a line by the reply turn: its words, the reply queue, the number displaced (R113, R114). -/
theorem lowClass_holds (n : LaneIx) (l : Lane) (passList : List PassEntry) (replies : List Reply) {f : LineFill}
    {budget : Nat} {words : List Word} (h : f.holds budget words) :
    let low := lowWords l passList ((oldestReply (laneScope n) replies).map replyPacket) f.room
    let out := lowClass n l passList replies f
    out.fill.holds budget (words ++ low.words)
      ∧ out.replies = (if low.replied then dropOldestReply (laneScope n) replies else replies)
      ∧ out.displaced = low.displaced := by
  cases ht : l.replyTurn with
  | before =>
    obtain ⟨hr, hq⟩ := offerReply_holds n replies h
    obtain ⟨he, hd⟩ := offerEntries_holds l.plan passList hr
    rw [h.room_append hr] at he hd
    simp only [lowClass, ht, lowWords_before ht, ← List.append_assoc, decide_eq_true_eq]
    exact ⟨he, hq, hd⟩
  | after =>
    obtain ⟨he, hd⟩ := offerEntries_holds l.plan passList h
    obtain ⟨hr, hq⟩ := offerReply_holds n replies he
    rw [h.room_append he] at hr hq
    simp only [lowClass, ht, lowWords_after ht, ← List.append_assoc, decide_eq_true_eq]
    exact ⟨hr, hq, hd⟩

/-! ### The build of a line (R109) -/

/-- The lane after the reads of a line: its carry queues and overrun counters (R108). -/
theorem lineReads_lane (n : LaneIx) (count : Nat) (s : State) :
    ∃ overrun : Vector Counter 4, (lineReads n count s).lanes[n] = { s.lanes[n] with
      queues := ((lineReads n count s).lanes[n]).queues
      counters := { (s.lanes[n]).counters with overrun := overrun } } := by
  simp only [lineReads, State.modifyLane_lanes, State.updateDests_lanes, modifyAt_getElem_self]
  exact ⟨_, rfl⟩

theorem lineReads_eq (n : LaneIx) (count : Nat) (s : State) :
    lineReads n count s = { s with
      lanes := (lineReads n count s).lanes
      dests := (lineReads n count s).dests } := rfl

theorem lineReads_lane_ne {n m : LaneIx} (h : m ≠ n) (count : Nat) (s : State) :
    (lineReads n count s).lanes[m] = s.lanes[m] := by
  simp only [lineReads, State.modifyLane_lanes, State.updateDests_lanes, modifyAt_getElem_ne _ (Ne.symm h)]

theorem budgetInForce_eq {l : Lane} {f : Format} (h : l.format = some f) : budgetInForce l = l.budgetOn f := by
  unfold budgetInForce Lane.budgetOn
  cases l.plan.budget with
  | some b => rfl
  | none => cases f <;> simp [h, formatBudget]

theorem phaseField_eq {l : Lane} {f : Format} (hlock : l.inputState = .locked) (h : l.format = some f) (phase : Fin 5) :
    phaseField l phase = if f = .f29 ∨ f = .f59 then phase.val else 7 := by
  cases f <;> simp [phaseField, hlock, h, formatFractional]

theorem lineCountOf_eq {s : State} {n : LaneIx} {f : Format} (h : (s.lanes[n]).format = some f) (j : Nat) :
    lineCountOf s n j = s.samplesOn n f j := by
  simp only [lineCountOf, h, State.samplesOn]

/-- The end of a build, its content given by the words placed on the line (R46, R113, R115). -/
theorem finishBuild_eq {low : LowClass} {budget : Nat} {words : List Word} (h : low.fill.holds budget words)
    (queues : Vector (List Instant) 4) (waiting : Bool) (space : Nat) (l : Lane) :
    finishBuild queues waiting low space l =
      { l.afterBuild waiting low.displaced (paddedLine words space) with queues := queues } := by
  have hturn : otherTurn l.replyTurn = if l.replyTurn = .before then .after else .before := by
    cases l.replyTurn <;> rfl
  rw [finishBuild, lineContent, h.1, hturn]
  rfl

theorem clearPlacedMark_eq (n : LaneIx) (j : Nat) (r : Reference) :
    clearPlacedMark n j r =
      if j = 0 ∧ r.role = .follower then { r with pendingMark := r.pendingMark.set n.val none n.isLt } else r := rfl

/-- The build of a line that is there to be built (R109). -/
theorem exec_outputLineBuild_builds {s : State} {n : LaneIx} {f : Format} {a : AwaitingBuild} (h : s.buildsLine n f a) :
    exec (.outputLineBuild n) s = .next (laneSamples n (s.samplesOn n f a.line)
      (placeLine n a (lineReads n (s.samplesOn n f a.line) s))) := by
  obtain ⟨hs, hlock, hfmt, haw⟩ := h
  have he : exec (.outputLineBuild n) s = powered s (outputLineBuild n) := rfl
  rw [he, powered_on hs, outputLineBuild, hlock, haw]
  simp only [buildLine, lineCountOf_eq hfmt]

/-- The queues and the line after the groups of a build (R110 to R112). -/
def placedGroups (n : LaneIx) (a : AwaitingBuild) (u : State) : Vector (List Instant) 4 × LineFill :=
  let l := u.lanes[n]
  placeGroups l.plan (phaseField l u.ref.phase[n]) l.rotation l.queues (placeMark u.ref n a.line ⟨budgetInForce l, []⟩)

/-- The low class of a build (R113, R114). -/
def placedLow (n : LaneIx) (a : AwaitingBuild) (u : State) : LowClass :=
  lowClass n u.lanes[n] a.passList u.replies (placedGroups n a u).2

theorem placeLine_eq (n : LaneIx) (a : AwaitingBuild) (u : State) :
    placeLine n a u =
      { u.putLane n (finishBuild (placedGroups n a u).1 (oldestReply (laneScope n) u.replies).isSome (placedLow n a u)
          a.blanking.length u.lanes[n]) with
        ref := clearPlacedMark n a.line u.ref
        replies := (placedLow n a u).replies } := rfl

/-- The sound packets of a line, after its mark (R111, R112). -/
def roundWords (l : Lane) (phase : Nat) (grants : List (GroupIx × Nat)) : List Word :=
  grants.flatMap fun x => turnWords l.plan phase l.queues[x.1] x.1 (grantedTo grants x.1)

section
variable {n : LaneIx} {f : Format} {u : State} (hlock : (u.lanes[n]).inputState = .locked)
  (hfmt : (u.lanes[n]).format = some f) {a : AwaitingBuild} {mark : List Word}
  (hmark : (placeMark u.ref n a.line ⟨(u.lanes[n]).budgetOn f, []⟩).holds ((u.lanes[n]).budgetOn f) mark)
include hlock hfmt hmark

/-- What the groups leave of the line and of the queues: the round of grants from the rotation pointer (R111, R112). -/
theorem placedGroups_holds :
    let l := u.lanes[n]
    let phase := if f = .f29 ∨ f = .f59 then (u.ref.phase[n]).val else 7
    let grants := roundGrants l.plan (fun g => (l.queues[g]).length) (roundOrder l.rotation)
      (l.budgetOn f - mark.length)
    (placedGroups n a u).2.holds (l.budgetOn f) (mark ++ roundWords l phase grants)
      ∧ (placedGroups n a u).1 = Vector.ofFn fun g => (l.queues[g]).drop (grantedTo grants g) := by
  intro l phase grants
  obtain ⟨hsound, hqueues⟩ := placeGroups_holds (roundOrder_nodup l.rotation) l.plan phase l.queues hmark l.queues
    fun _ _ => rfl
  rw [hmark.room_eq] at hsound hqueues
  have hgranted : roundWords l phase grants =
      grants.flatMap fun x => turnWords l.plan phase l.queues[x.1] x.1 x.2 := by
    refine List.flatMap_congr fun x hx => ?_
    rw [grantedTo_of_mem (by rw [roundGrants_fst]; exact roundOrder_nodup _) hx]
  have hplaced : placedGroups n a u = (roundOrder l.rotation).foldl (placeGroup l.plan phase)
      (l.queues, placeMark u.ref n a.line ⟨l.budgetOn f, []⟩) := by
    rw [placedGroups, budgetInForce_eq hfmt, phaseField_eq hlock hfmt]
    rfl
  rw [hplaced, hgranted]
  refine ⟨hsound, vector_ext_fin fun g => (hqueues g).trans ?_⟩
  simp only [Fin.getElem_fin, Vector.getElem_ofFn]
  rfl

/-- What the low class leaves of the line, the reply queue and the displaced entries (R113, R114). -/
theorem placedLow_holds :
    let l := u.lanes[n]
    let phase := if f = .f29 ∨ f = .f59 then (u.ref.phase[n]).val else 7
    let sound := mark ++ roundWords l phase (roundGrants l.plan (fun g => (l.queues[g]).length) (roundOrder l.rotation)
      (l.budgetOn f - mark.length))
    let low := lowWords l a.passList ((oldestReply (laneScope n) u.replies).map replyPacket)
      (l.budgetOn f - sound.length)
    (placedLow n a u).fill.holds (l.budgetOn f) (sound ++ low.words)
      ∧ (placedLow n a u).replies = (if low.replied then dropOldestReply (laneScope n) u.replies else u.replies)
      ∧ (placedLow n a u).displaced = low.displaced := by
  intro l phase sound low
  obtain ⟨hsound, -⟩ := placedGroups_holds hlock hfmt hmark
  have hlow := lowClass_holds n l a.passList u.replies hsound
  rw [hsound.room_eq] at hlow
  exact hlow

end

end Sys2Proof.Machine
end

section
/-! The two statements about the build of a line: O20, O24. -/

namespace Sys2Proof.Machine

/-- A lane without a line to build, or not LOCKED, has no build (R7, R109). -/
theorem outputLineBuild_none {n : LaneIx} {s : State}
    (h : (s.lanes[n]).inputState ≠ .locked ∨ (s.lanes[n]).awaiting = none) : outputLineBuild n s = s := by
  unfold outputLineBuild
  split
  · rename_i hl ha
    rcases h with h | h
    · exact absurd hl h
    · rw [h] at ha
      cases ha
  · rfl

section
variable (n : LaneIx) (a : AwaitingBuild) (count : Nat) (u : State)

theorem laneSamples_lanes : (laneSamples n count u).lanes = u.lanes := rfl

theorem placeLine_lane : (placeLine n a u).lanes[n] =
    finishBuild (placedGroups n a u).1 (oldestReply (laneScope n) u.replies).isSome (placedLow n a u)
      a.blanking.length u.lanes[n] :=
  modifyAt_getElem_self ..

theorem placeLine_lane_ne {m : LaneIx} (h : m ≠ n) : (placeLine n a u).lanes[m] = u.lanes[m] :=
  modifyAt_getElem_ne _ (Ne.symm h) _

end

/-- The content of a line beyond the words placed on it is filler (R18). -/
theorem paddedLine_getD {words : List Word} {space i : Nat} (h : words.length ≤ i) :
    (paddedLine words space).getD i 0 = 0 := by
  rw [paddedLine, List.getD_eq_getElem?_getD, List.getElem?_append_right h]
  by_cases hi : i - words.length < space - words.length
  · rw [List.getElem?_replicate_of_lt hi]
    rfl
  · rw [List.getElem?_eq_none (by simpa using hi)]
    rfl

theorem paddedLine_length {words : List Word} {space : Nat} (h : words.length ≤ space) :
    (paddedLine words space).length = space := by
  simp only [paddedLine, List.length_append, List.length_replicate]
  omega

/-- The position and the held samples of a port after samples of its clock (R5, R129; log entry 32). -/
theorem clockSamples_position {x : Port} (h : x.position < 1024) (count : Nat) :
    ((clockSamples count x).position + (clockSamples count x).heldSamples) % 1024 =
        (x.position + x.heldSamples + count) % 1024
      ∧ ((clockSamples count x).heldSamples ≠ 0 →
        (clockSamples count x).position = 0 ∧ (clockSamples count x).frameDue = true) := by
  obtain ⟨-, ⟨hheld, hpos⟩ | ⟨hpos, hdue, -, hheld⟩⟩ :=
    advanceBy_cases (x.heldSamples + count) { x with heldSamples := 0 } h
  · refine ⟨?_, fun hne => absurd hheld hne⟩
    rw [clockSamples, hheld, hpos, ← Nat.add_assoc]
    simp
  · refine ⟨?_, fun _ => ⟨hpos, hdue⟩⟩
    rw [clockSamples, hpos, Nat.zero_add, hheld, ← Nat.add_assoc]

theorem oldestReply_isSome_iff (n : LaneIx) (rs : List Reply) :
    (oldestReply (laneScope n) rs).isSome = true ↔ ∃ r ∈ rs, r.iface.val = n.val := by
  rw [oldestReply_lane, List.find?_isSome]
  simp only [decide_eq_true_eq]

theorem afterBuild_replyTurn (l : Lane) (waiting : Bool) (displaced : Nat) (content : List Word) :
    (l.afterBuild waiting displaced content).replyTurn ≠ l.replyTurn ↔ waiting = true := by
  unfold Lane.afterBuild
  cases waiting <;> cases h : l.replyTurn <;> simp

theorem lineReads_budgetOn (n : LaneIx) (count : Nat) (s : State) (f : Format) :
    ((lineReads n count s).lanes[n]).budgetOn f = (s.lanes[n]).budgetOn f := by
  obtain ⟨overrun, hlane⟩ := lineReads_lane n count s
  exact (congrArg (fun l => Lane.budgetOn l f) hlane).trans rfl

theorem lineReads_replyTurn (n : LaneIx) (count : Nat) (s : State) :
    ((lineReads n count s).lanes[n]).replyTurn = (s.lanes[n]).replyTurn := by
  obtain ⟨overrun, hlane⟩ := lineReads_lane n count s
  exact (congrArg Lane.replyTurn hlane).trans rfl

/-- The lane after a build: its content is words within the budget in force, then filler (R12, R109). -/
theorem placeLine_within {n : LaneIx} {f : Format} {u : State} (hlock : (u.lanes[n]).inputState = .locked)
    (hfmt : (u.lanes[n]).format = some f) (a : AwaitingBuild) :
    ∃ words : List Word, words.length ≤ (u.lanes[n]).budgetOn f
      ∧ (placeLine n a u).lanes[n] = { (u.lanes[n]).afterBuild (oldestReply (laneScope n) u.replies).isSome
          (placedLow n a u).displaced (paddedLine words a.blanking.length) with queues := (placedGroups n a u).1 } := by
  obtain ⟨mark, hmark⟩ := placeMark_holds_some ((u.lanes[n]).budgetOn f) u.ref n a.line
  obtain ⟨hlow, -, -⟩ := placedLow_holds hlock hfmt hmark
  exact ⟨_, le_of_le_of_eq (Nat.le_add_right ..) hlow.2, (placeLine_lane n a u).trans (finishBuild_eq hlow ..)⟩

/-- Settles O20: what the placement holds is within the budget, and the end of the build field by field. -/
theorem buildStaysWithinBudget : Obligations.BuildStaysWithinBudget := by
  intro n s hs
  refine ⟨fun h => ?_, fun f a hb => ?_⟩
  · have he : exec (.outputLineBuild n) s = powered s (outputLineBuild n) := rfl
    rw [he, powered_on hs, outputLineBuild_none h]
  obtain ⟨overrun, hlane⟩ := lineReads_lane n (s.samplesOn n f a.line) s
  obtain ⟨words, hle, hbuilt⟩ := placeLine_within (u := lineReads n (s.samplesOn n f a.line) s)
    ((congrArg Lane.inputState hlane).trans hb.2.1) ((congrArg Lane.format hlane).trans hb.2.2.1) a
  rw [lineReads_budgetOn] at hle
  refine ⟨_, exec_outputLineBuild_builds hb, fun i hi => ?_, fun hspace => ?_, ?_, ?_, ?_, fun m hm => ?_, fun p hp => ?_,
    fun p hp hpos => ?_, rfl, rfl, rfl, rfl⟩
  · rw [laneSamples_lanes, hbuilt]
    exact paddedLine_getD (hle.trans hi)
  · rw [laneSamples_lanes, hbuilt]
    exact paddedLine_length (hle.trans hspace)
  · rw [laneSamples_lanes, hbuilt, hlane]
    exact Fin.val_add ..
  · rw [laneSamples_lanes, hbuilt, ← oldestReply_isSome_iff, ← lineReads_replyTurn n (s.samplesOn n f a.line) s]
    exact afterBuild_replyTurn _ _ 0 []
  · rw [laneSamples_lanes, hbuilt]
    rfl
  · rw [laneSamples_lanes, placeLine_lane_ne n a _ hm, lineReads_lane_ne hm]
  · exact (updateAll_getElem_fin ..).trans (if_neg hp)
  · have hport : (laneSamples n (s.samplesOn n f a.line) (placeLine n a
        (lineReads n (s.samplesOn n f a.line) s))).ports[p] = clockSamples (s.samplesOn n f a.line) s.ports[p] :=
      (updateAll_getElem_fin ..).trans (if_pos hp)
    rw [hport]
    exact clockSamples_position hpos _

/-- Settles O24: mark, round and low class as the placement holds them, put together. -/
theorem groupPacketIsGranted : Obligations.GroupPacketIsGranted := by
  intro n f a s hb hbudget count filled l due mark phase grants granted packet sound low after
  obtain ⟨overrun, hlane⟩ := lineReads_lane n count s
  have hlock : l.inputState = .locked := (congrArg Lane.inputState hlane).trans hb.2.1
  have hfmt : l.format = some f := (congrArg Lane.format hlane).trans hb.2.2.1
  have hle : 4 ≤ l.budgetOn f := le_of_le_of_eq hbudget (lineReads_budgetOn n count s f).symm
  have hmark : (placeMark filled.ref n a.line ⟨l.budgetOn f, []⟩).holds (l.budgetOn f) mark := by
    have h := placeMark_holds hle filled.ref n a.line
    rw [markDue_eq, funext markPacket_eq] at h
    exact h
  obtain ⟨-, hqueues⟩ := placedGroups_holds hlock hfmt hmark
  obtain ⟨hlow, hreplies, hdisplaced⟩ := placedLow_holds hlock hfmt hmark
  have hreply : (oldestReply (laneScope n) filled.replies).map replyPacket = s.waitingReply n := by
    rw [oldestReply_lane]
    rfl
  have hwaiting : (oldestReply (laneScope n) filled.replies).isSome = (s.waitingReply n).isSome := by
    rw [← hreply, Option.isSome_map]
  rw [hreply] at hlow hreplies hdisplaced
  rw [dropOldestReply_lane] at hreplies
  rw [exec_outputLineBuild_builds hb, placeLine_eq, finishBuild_eq hlow, hqueues, hwaiting, hreplies, hdisplaced,
    clearPlacedMark_eq]
  rfl

end Sys2Proof.Machine
end

section
/-! What every step keeps (O56, O59): the relation between the states before and after it, with its rules for the elementary
updates of the state. -/

namespace Sys2Proof.Machine

/-! ### Lanes and ports, part by part -/

/-- A lane's soundness part by part, but for the pass list in progress, which holds packets while a line is parsed (R1, R2,
R11, R14, R31). -/
structure Lane.stands (l : Lane) : Prop where
  count : l.lineCount ≤ 1120
  closed : l.frameOpen = true ∨ l.lineCount = 0
  line : ∀ a ∈ l.awaiting, a.line < 1120
  queues : ∀ g : GroupIx, embeds l.plan.modes[g] = true ∧ l.running[g] = true ∨ l.queues[g] = []
  still : l.inputState ≠ .locked → l.quiet = true
  silent : l.inputState = .noSignal → l.format = none ∧ l.frameOpen = false
  locked : l.inputState = .locked → l.format.isSome = true ∧ l.frameOpen = true

theorem Lane.sound_iff (l : Lane) : l.sound = true ↔ l.stands ∧ l.passProgress = [] := by
  have hqueues : ((List.finRange 4).all fun g => (embeds l.plan.modes[g] && l.running[g]) || (l.queues[g]).isEmpty) = true ↔
      ∀ g : GroupIx, embeds l.plan.modes[g] = true ∧ l.running[g] = true ∨ l.queues[g] = [] := by
    simp only [List.all_eq_true, List.mem_finRange, forall_const, Bool.or_eq_true, Bool.and_eq_true, List.isEmpty_iff]
  unfold Lane.sound
  simp only [Bool.and_eq_true, hqueues, decide_eq_true_eq, Bool.or_eq_true, Option.all_eq_true]
  constructor
  · rintro ⟨⟨⟨⟨⟨hcount, hpass⟩, hclosed⟩, hline⟩, hq⟩, hstate⟩
    refine ⟨⟨hcount, hclosed, hline, hq, fun h => ?_, fun h => ?_, fun h => ?_⟩, hpass⟩
    · cases hl : l.inputState <;> simp_all
    · simp_all
    · simp_all
  · rintro ⟨⟨hcount, hclosed, hline, hq, hstill, hsilent, hlocked⟩, hpass⟩
    refine ⟨⟨⟨⟨⟨hcount, hpass⟩, hclosed⟩, hline⟩, hq⟩, ?_⟩
    cases hl : l.inputState <;> simp_all

/-- A lane that stands, its input state what its link's signal says outside power-on reset (R1). -/
structure Lane.fine (held : Bool) (l : Lane) : Prop where
  stands : l.stands
  link : held = false → (l.linkSignal = true ↔ l.inputState ≠ .noSignal)

theorem lanesSound_iff (s : State) :
    s.lanesSound ↔ (∀ n : LaneIx, (s.lanes[n]).fine s.resetHeld) ∧ ∀ n : LaneIx, (s.lanes[n]).passProgress = [] := by
  constructor
  · intro h
    exact ⟨fun n => ⟨((Lane.sound_iff _).1 (h n).1).1, (h n).2⟩, fun n => ((Lane.sound_iff _).1 (h n).1).2⟩
  · rintro ⟨hf, hp⟩ n
    exact ⟨(Lane.sound_iff _).2 ⟨(hf n).stands, hp n⟩, (hf n).link⟩

/-- A port's soundness part by part (R5, R122, R123, R127 to R129, R132, R136). -/
structure Port.stands (x : Port) : Prop where
  ranges : x.stallTimer ≤ 48000 ∧ x.position < 1024
  held : x.heldSamples = 0 ∨ (x.heldSamples = 1 ∧ x.position = 0 ∧ x.clock ≠ .station)
  staging : x.staging.sound = true
  timers : ∀ c : ChanIx, ∀ t ∈ x.absence[c], t ≤ 2048
  due : ∀ c : ChanIx, (x.absence[c] = some 2048 → x.absenceDue[c] = true)
    ∧ (x.absenceDue[c] = true → (x.absence[c]).isSome = true)
  shut : x.receiveEnable = false → x.inFifo = [] ∧ x.staging = .idle ∧ x.prevCount = Vector.replicate 4 none
    ∧ x.absence = Vector.replicate 4 none ∧ x.absenceDue = Vector.replicate 4 false

theorem Port.sound_iff (x : Port) : x.sound = true ↔ x.stands := by
  have htimers : ((List.finRange 4).all fun c => (x.absence[c]).all fun t => decide (t ≤ 2048)) = true ↔
      ∀ c : ChanIx, ∀ t ∈ x.absence[c], t ≤ 2048 := by
    simp only [List.all_eq_true, List.mem_finRange, forall_const, Option.all_eq_true, Option.mem_def,
      decide_eq_true_eq]
  have hdue : ((List.finRange 4).all fun c => (decide (x.absence[c] ≠ some 2048) || x.absenceDue[c])
      && (!x.absenceDue[c] || (x.absence[c]).isSome)) = true ↔
      ∀ c : ChanIx, (x.absence[c] = some 2048 → x.absenceDue[c] = true)
        ∧ (x.absenceDue[c] = true → (x.absence[c]).isSome = true) := by
    simp only [List.all_eq_true, List.mem_finRange, forall_const, Bool.and_eq_true, Bool.or_eq_true,
      decide_eq_true_eq, Bool.not_eq_true', ← Bool.not_eq_true, ← imp_iff_not_or, ne_eq]
  unfold Port.sound
  simp only [Bool.and_eq_true, htimers, hdue, decide_eq_true_eq, Bool.or_eq_true, ← Bool.not_eq_false (b := x.receiveEnable),
    ← imp_iff_not_or]
  constructor
  · rintro ⟨⟨⟨⟨⟨hr, hh⟩, hs⟩, ht⟩, hd⟩, hshut⟩
    exact ⟨hr, hh, hs, ht, hd, hshut⟩
  · rintro ⟨hr, hh, hs, ht, hd, hshut⟩
    exact ⟨⟨⟨⟨⟨hr, hh⟩, hs⟩, ht⟩, hd⟩, hshut⟩

/-! ### What a change keeps -/

/-- The lane is LOCKED. -/
def State.locks (s : State) (n : LaneIx) : Prop :=
  (s.lanes[n]).inputState = .locked

/-- The change from one state to the next keeps the invariants of O56 and O59; the pass list of a lane in progress is left open
while its line is parsed (`busy`; R31). -/
structure Keeps (busy : Option LaneIx) (s t : State) : Prop where
  entries : s.entriesSound → t.entriesSound
  take : s.takeSound → t.takeSound
  lanes : (∀ n : LaneIx, (s.lanes[n]).fine s.resetHeld) → ∀ n : LaneIx, (t.lanes[n]).fine t.resetHeld
  pass : ∀ n : LaneIx, busy ≠ some n → (s.lanes[n]).passProgress = [] → (t.lanes[n]).passProgress = []
  presence : s.presenceSound → t.presenceSound
  ports : s.portsSound → t.portsSound
  marks : s.marksSound → t.marksSound

/-- The change keeps the invariants and leaves the same lanes LOCKED. -/
structure Steady (busy : Option LaneIx) (s t : State) : Prop extends Keeps busy s t where
  locks : ∀ n : LaneIx, t.locks n ↔ s.locks n

section
variable {busy : Option LaneIx} {s t u : State}

theorem Keeps.trans (h : Keeps busy s t) (k : Keeps busy t u) : Keeps busy s u where
  entries := fun e => k.entries (h.entries e)
  take := fun e => k.take (h.take e)
  lanes := fun e => k.lanes (h.lanes e)
  pass := fun n hn e => k.pass n hn (h.pass n hn e)
  presence := fun e => k.presence (h.presence e)
  ports := fun e => k.ports (h.ports e)
  marks := fun e => k.marks (h.marks e)

theorem Steady.trans (h : Steady busy s t) (k : Steady busy t u) : Steady busy s u :=
  ⟨h.toKeeps.trans k.toKeeps, fun n => (k.locks n).trans (h.locks n)⟩

theorem Steady.refl (busy : Option LaneIx) (s : State) : Steady busy s s :=
  ⟨⟨id, id, id, fun _ _ => id, id, id, id⟩, fun _ => Iff.rfl⟩

theorem Keeps.refl (busy : Option LaneIx) (s : State) : Keeps busy s s :=
  (Steady.refl busy s).toKeeps

/-- What a change with no line in progress keeps of the lanes. -/
theorem Keeps.lanesSound (h : Keeps none s t) (hs : s.lanesSound) : t.lanesSound := by
  rw [lanesSound_iff] at hs ⊢
  exact ⟨h.lanes hs.1, fun n => h.pass n (by simp) (hs.2 n)⟩

/-! ### The invariants, one by one -/

/-- The take after a change is the one before, but for its owner, origin, tag and a sound expiry count. -/
def TakeStays (a b : Option Take) : Prop :=
  ∀ t ∈ b, ∃ u ∈ a, t.latches = u.latches ∧ t.plan = u.plan ∧ t.scope = u.scope ∧ t.state = u.state
    ∧ (u.expiry ≤ 96000 → t.expiry ≤ 96000)

theorem TakeStays.refl (a : Option Take) : TakeStays a a :=
  fun t h => ⟨t, h, rfl, rfl, rfl, rfl, id⟩

theorem TakeStays.none (a : Option Take) : TakeStays a none :=
  fun _ h => by cases h

theorem entriesSound_of (hentries : t.entries = s.entries) (hplan : ∀ n : LaneIx, (t.lanes[n]).plan = (s.lanes[n]).plan)
    (htake : TakeStays s.take t.take) (hundo : ∀ i : Iface, ∀ u ∈ t.undo[i], u ∈ s.undo[i]) (h : s.entriesSound) :
    t.entriesSound := by
  obtain ⟨he, hp, hk, hu⟩ := h
  refine ⟨fun d => by rw [hentries]; exact he d, fun n => by rw [hplan]; exact hp n, fun k hk' => ?_,
    fun i u hu' => hu i u (hundo i u hu')⟩
  obtain ⟨k₀, hk₀, hl, hpl, hsc, -, -⟩ := htake k hk'
  rw [hl, hpl, hsc]
  exact hk k₀ hk₀

theorem takeSound_of (htake : TakeStays s.take t.take) (hlocks : ∀ n : LaneIx, s.locks n → t.locks n)
    (h : s.takeSound) : t.takeSound := by
  intro k hk
  obtain ⟨k₀, hk₀, -, -, hsc, hst, hx⟩ := htake k hk
  obtain ⟨hex, hwait⟩ := h k₀ hk₀
  exact ⟨hx hex, fun n hp hn => hlocks n (hwait n (hst ▸ hp) (hsc ▸ hn))⟩

theorem presenceSound_of (hpresent : ∀ i : SourceIx, (t.sources[i]).present = true → (s.sources[i]).present = true)
    (hlocks : ∀ n : LaneIx, s.locks n → t.locks n)
    (hports : ∀ p : PortIx, (s.ports[p]).receiveEnable = true → (t.ports[p]).receiveEnable = true)
    (habsence : ∀ (p : PortIx) (c : ChanIx), ((s.ports[p]).absence[c]).isSome = true →
      ((t.ports[p]).absence[c]).isSome = true)
    (h : s.presenceSound) : t.presenceSound := by
  refine ⟨fun n g k hp => hlocks n (h.1 n g k (hpresent _ hp)), fun p c k hp => ?_⟩
  obtain ⟨hr, ha⟩ := h.2 p c k (hpresent _ hp)
  exact ⟨hports p hr, habsence p c ha⟩

theorem clockUnder_congr (hlocks : ∀ n : LaneIx, t.locks n ↔ s.locks n) (source : Clock) :
    clockUnder t source = clockUnder s source := by
  cases source with
  | station => rfl
  | lane n =>
    have hn : (t.lanes[n]).inputState = .locked ↔ (s.lanes[n]).inputState = .locked := hlocks n
    simp only [clockUnder, hn]

theorem portsSound_of (hlocks : ∀ n : LaneIx, t.locks n ↔ s.locks n)
    (hports : ∀ p : PortIx, (s.ports[p]).stands → (t.ports[p]).stands)
    (hclock : ∀ p : PortIx, (t.ports[p]).clock = (s.ports[p]).clock)
    (hplan : ∀ p : PortIx, (t.ports[p]).plan.clock = (s.ports[p]).plan.clock) (h : s.portsSound) : t.portsSound := by
  intro p
  obtain ⟨hs, hc⟩ := h p
  rw [Port.sound_iff] at hs ⊢
  exact ⟨hports p hs, by rw [hclock, hplan, clockUnder_congr hlocks, hc]⟩

/-- Marks and flags of the state after a change, from those before it or set on a LOCKED lane. -/
structure MarksStay (s t : State) : Prop where
  pending : ∀ n : LaneIx, (t.ref.pendingMark[n]).isSome = true →
    (s.ref.pendingMark[n]).isSome = true ∧ (s.ref.role = .follower → inSet s.ref.markOut n = true →
      t.ref.role = .follower ∧ inSet t.ref.markOut n = true)
    ∨ t.ref.role = .follower ∧ inSet t.ref.markOut n = true ∧ s.locks n
  realign : ∀ n : LaneIx, t.ref.realign[n] = true → s.ref.realign[n] = true ∨ s.locks n

theorem MarksStay.of_ref (h : t.ref = s.ref) : MarksStay s t := by
  refine ⟨fun n hn => .inl ?_, fun n hn => .inl ?_⟩
  · rw [h] at hn ⊢
    exact ⟨hn, fun hr ho => ⟨hr, ho⟩⟩
  · rwa [h] at hn

theorem marksSound_of (hmarks : MarksStay s t) (hlocks : ∀ n : LaneIx, s.locks n → t.locks n) (h : s.marksSound) :
    t.marksSound := by
  intro n
  refine ⟨fun hp => ?_, fun hr => hlocks n ?_⟩
  · rcases hmarks.pending n hp with ⟨hs, himp⟩ | ⟨hr, ho, hl⟩
    · obtain ⟨hr, ho, hl⟩ := (h n).1 hs
      exact ⟨(himp hr ho).1, (himp hr ho).2, hlocks n hl⟩
    · exact ⟨hr, ho, hlocks n hl⟩
  · rcases hmarks.realign n hr with hs | hl
    · exact (h n).2 hs
    · exact hl

end

/-! ### Rules for the updates of one block -/

/-- A lane after a change that keeps its plan, whether it is LOCKED, and what must stand of it. -/
structure LaneStays (held : Bool) (a b : Lane) : Prop where
  plan : b.plan = a.plan
  locks : b.inputState = .locked ↔ a.inputState = .locked
  fine : a.fine held → b.fine held

theorem LaneStays.refl (held : Bool) (a : Lane) : LaneStays held a a := ⟨rfl, Iff.rfl, id⟩

/-- A port after a change that keeps its clock and its plan's, and its soundness. -/
structure ClockStays (a b : Port) : Prop where
  clock : b.clock = a.clock
  plan : b.plan.clock = a.plan.clock
  stands : a.stands → b.stands

/-- A port after a change that keeps what its sources' presence rests on too. -/
structure PortStays (a b : Port) : Prop extends ClockStays a b where
  receives : a.receiveEnable = true → b.receiveEnable = true
  absence : ∀ c : ChanIx, (a.absence[c]).isSome = true → (b.absence[c]).isSome = true

theorem PortStays.refl (a : Port) : PortStays a a := ⟨⟨rfl, rfl, id⟩, id, fun _ => id⟩

section
variable {busy : Option LaneIx} {s t : State}

/-- A change of any blocks, each kept on its own, and presence with them. -/
theorem Steady.ofPresence (presence : s.presenceSound → t.presenceSound)
    (held : t.resetHeld = s.resetHeld := by rfl) (entries : t.entries = s.entries := by rfl)
    (undo : ∀ i : Iface, ∀ u ∈ t.undo[i], u ∈ s.undo[i] := by exact fun _ _ h => h)
    (take : TakeStays s.take t.take := by exact TakeStays.refl _)
    (lanes : ∀ n : LaneIx, LaneStays s.resetHeld s.lanes[n] t.lanes[n] := by exact fun _ => LaneStays.refl _ _)
    (pass : ∀ n : LaneIx, busy ≠ some n → (s.lanes[n]).passProgress = [] → (t.lanes[n]).passProgress = [] := by
      exact fun _ _ h => h)
    (ports : ∀ p : PortIx, ClockStays s.ports[p] t.ports[p] := by exact fun _ => (PortStays.refl _).toClockStays)
    (marks : MarksStay s t := by exact MarksStay.of_ref rfl) : Steady busy s t where
  entries := entriesSound_of entries (fun n => (lanes n).plan) take undo
  take := takeSound_of take fun n => (lanes n).locks.2
  lanes := fun h n => held ▸ (lanes n).fine (h n)
  pass := pass
  presence := presence
  ports := portsSound_of (fun n => (lanes n).locks) (fun p => (ports p).stands) (fun p => (ports p).clock)
    fun p => (ports p).plan
  marks := marksSound_of marks fun n => (lanes n).locks.2
  locks := fun n => (lanes n).locks

/-- A change of any blocks, each kept on its own. -/
theorem Steady.of (held : t.resetHeld = s.resetHeld := by rfl) (entries : t.entries = s.entries := by rfl)
    (undo : ∀ i : Iface, ∀ u ∈ t.undo[i], u ∈ s.undo[i] := by exact fun _ _ h => h)
    (take : TakeStays s.take t.take := by exact TakeStays.refl _)
    (lanes : ∀ n : LaneIx, LaneStays s.resetHeld s.lanes[n] t.lanes[n] := by exact fun _ => LaneStays.refl _ _)
    (pass : ∀ n : LaneIx, busy ≠ some n → (s.lanes[n]).passProgress = [] → (t.lanes[n]).passProgress = [] := by
      exact fun _ _ h => h)
    (present : ∀ i : SourceIx, (t.sources[i]).present = true → (s.sources[i]).present = true := by exact fun _ h => h)
    (ports : ∀ p : PortIx, PortStays s.ports[p] t.ports[p] := by exact fun _ => PortStays.refl _)
    (marks : MarksStay s t := by exact MarksStay.of_ref rfl) : Steady busy s t :=
  Steady.ofPresence (presenceSound_of present (fun n => (lanes n).locks.2) (fun p => (ports p).receives)
    fun p => (ports p).absence) held entries undo take lanes pass (fun p => (ports p).toClockStays) marks

theorem Steady.modifyLane {n : LaneIx} {f : Lane → Lane} (h : LaneStays s.resetHeld s.lanes[n] (f s.lanes[n]))
    (hpass : busy ≠ some n → (s.lanes[n]).passProgress = [] → (f s.lanes[n]).passProgress = []) :
    Steady busy s (s.modifyLane n f) := by
  refine Steady.of (lanes := fun m => ?_) (pass := fun m hm => ?_)
  · simp only [State.modifyLane_lanes, modifyAt_getElem]
    split
    next hmn => subst hmn; exact h
    next => exact LaneStays.refl ..
  · simp only [State.modifyLane_lanes, modifyAt_getElem]
    split
    next hmn => subst hmn; exact hpass hm
    next => exact id

theorem Steady.modifyPort {p : PortIx} {f : Port → Port} (h : PortStays s.ports[p] (f s.ports[p])) :
    Steady busy s (s.modifyPort p f) := by
  refine Steady.of (ports := fun q => ?_)
  simp only [State.modifyPort_ports, modifyAt_getElem]
  split
  next hq => subst hq; exact h
  next => exact PortStays.refl _

theorem Steady.updatePorts {f : PortIx → Port → Port} (h : ∀ p : PortIx, PortStays s.ports[p] (f p s.ports[p])) :
    Steady busy s (s.updatePorts f) :=
  Steady.of (ports := fun p => by rw [State.updatePorts_ports, updateAll_getElem_fin]; exact h p)

theorem Steady.updateSources {f : SourceIx → Source → Source}
    (h : ∀ (i : SourceIx) (x : Source), (f i x).present = true → x.present = true) :
    Steady busy s (s.updateSources f) :=
  Steady.of (present := fun i => by rw [State.updateSources_sources, updateAll_getElem_fin]; exact h i _)

theorem Steady.modifySource {i : SourceIx} {f : Source → Source} (h : ∀ x : Source, (f x).present = x.present) :
    Steady busy s (s.modifySource i f) :=
  Steady.of (present := fun k => by
    rw [State.modifySource_sources, modifyAt_proj Source.present h]
    exact id)

theorem Steady.queueReply (i : Iface) (status : Status) (tag : Word) (kind : Byte) (data : List Word) (s : State) :
    Steady busy s (queueReply i status tag kind data s) :=
  Steady.of

theorem Steady.updateDests {f : DestIx → LiveRecord → LiveRecord} : Steady busy s (s.updateDests f) :=
  Steady.of

end

end Sys2Proof.Machine
end

section
/-! An application of a take, and the requests that change the take, keep the invariants of O56 and O59. -/

namespace Sys2Proof.Machine

/-! ### Takes and plans that could be committed (R149, R152, R153) -/

/-- Every latched entry and the plan of a take could be committed on its scope. -/
def Take.fits (t : Take) : Prop :=
  latchesFit t.latches t.scope = true ∧ ∀ plan ∈ t.plan, plan.fits t.scope = true

theorem latchesFit_iff (latches : List (DestIx × RouteEntry)) (scope : Iface) :
    latchesFit latches scope = true ↔
      (latches.map Prod.fst).Pairwise (· < ·) ∧ ∀ c ∈ latches, trackScope c.1 = scope ∧ c.2.sound = true := by
  simp only [latchesFit, Bool.and_eq_true, decide_eq_true_eq, List.all_eq_true]

@[simp] theorem fits_lane_laneScope (plan : LanePlan) (n : LaneIx) :
    (ScopePlan.lane plan).fits (laneScope n) = plan.sound := by
  simp only [ScopePlan.fits, ifacePlace_laneScope]

theorem scopePlan_fits {s : State} (h : ∀ n : LaneIx, (s.lanes[n]).plan.sound = true) (scope : Iface) :
    (scopePlan s scope).fits scope = true := by
  rcases scope_cases scope with ⟨n, rfl⟩ | ⟨p, rfl⟩
  · rw [scopePlan_laneScope, fits_lane_laneScope]
    exact h n
  · simp only [scopePlan, ScopePlan.fits, ifacePlace_portScope]

/-- What a take replaces could be committed again (R158). -/
theorem undoRecord_fits {s : State} {t : Take} (hs : s.entriesSound) (ht : t.fits) :
    latchesFit (undoRecord s t).entries t.scope = true ∧ ∀ plan ∈ (undoRecord s t).plan, plan.fits t.scope = true := by
  obtain ⟨hsorted, hall⟩ := (latchesFit_iff _ _).1 ht.1
  obtain ⟨he, hp, -, -⟩ := hs
  constructor
  · rw [latchesFit_iff]
    refine ⟨by simpa [undoRecord, Function.comp_def] using hsorted, fun c hc => ?_⟩
    obtain ⟨c₀, hc₀, rfl⟩ := List.mem_map.1 hc
    exact ⟨(hall c₀ hc₀).1, he c₀.1⟩
  · intro plan hplan
    obtain ⟨_, -, rfl⟩ := Option.map_eq_some_iff.1 (Option.mem_def.1 hplan)
    exact scopePlan_fits hp t.scope

theorem mem_pushUndo {s : State} {t : Take} {i : Iface} {u : UndoRecord} (h : u ∈ (pushUndo t s).undo[i]) :
    i = t.scope ∧ u = undoRecord s t ∨ u ∈ s.undo[i] := by
  rw [pushUndo_undo] at h
  split at h
  next hi =>
    rcases List.mem_cons.1 (List.mem_of_mem_take h) with h | h
    · exact .inl ⟨hi.1, h⟩
    · exact .inr h
  next => exact .inr h

/-! ### An application (R159) -/

section
variable {s : State} {t : Take} (lost : Option LaneIx)

theorem applyTake_entriesSound (hfit : t.fits) (h : s.entriesSound) : (applyTake lost t s).entriesSound := by
  obtain ⟨hsorted, hall⟩ := (latchesFit_iff _ _).1 hfit.1
  obtain ⟨he, hp, -, hu⟩ := id h
  refine ⟨fun d => ?_, fun n => ?_, fun k hk => (by rw [applyTake_take] at hk; cases hk), fun i u hu' => ?_⟩
  · rw [applyTake_entries]
    cases hd : latchedEntry t.latches d with
    | none => exact he d
    | some e => exact (hall _ (latchedEntry_mem hd)).2
  · rcases scope_cases t.scope with ⟨m, hm⟩ | ⟨p, hp'⟩
    · rw [applyTake_lanes_of_lane hm, modifyAt_getElem]
      split
      next hmn =>
        subst hmn
        rw [appliedLane_eq]
        change (plannedLane t.plan s.lanes[m]).plan.sound = true
        rw [plannedLane_plan]
        split
        next new hnew =>
          have := hfit.2 _ hnew
          rwa [hm, fits_lane_laneScope] at this
        next => exact hp m
      next => exact hp n
    · rw [applyTake_lanes_of_port hp']
      exact hp n
  · rw [applyTake_undo] at hu'
    rcases mem_pushUndo hu' with ⟨rfl, rfl⟩ | hold
    · exact undoRecord_fits h hfit
    · exact hu i u hold

/-- A lane after a plan is applied: a carry queue holds something only where its group reads (R11, R83, R107). -/
theorem appliedLane_stands {l : Lane} (h : l.stands) (plan : Option ScopePlan) :
    (settledLane (plannedLane plan l)).stands := by
  have hquiet (hl : l.inputState ≠ .locked) := appliedLane_quiet (h.still hl) plan
  have hqueues (g : GroupIx) : embeds (plannedLane plan l).plan.modes[g] = true ∧
      (settledLane (plannedLane plan l)).running[g] = true ∨ (plannedLane plan l).queues[g] = [] := by
    by_cases hl : l.inputState = .locked
    · rw [settledLane_running, plannedLane_inputState, plannedLane_queues, hl]
      by_cases hnew : embeds (plannedLane plan l).plan.modes[g] = true
      · exact .inl ⟨hnew, by simpa using hnew⟩
      · right
        rcases h.queues g with ⟨hold, -⟩ | hempty
        · rw [if_pos ⟨hold, hnew⟩]
        · rw [hempty, ite_self]
    · right
      have hq := quiet_queues (hquiet hl)
      rw [appliedLane_eq] at hq
      change (plannedLane plan l).queues = _ at hq
      simp [hq]
  rw [appliedLane_eq] at hquiet ⊢
  exact ⟨h.count, h.closed, h.line, hqueues, hquiet, h.silent, h.locked⟩

theorem appliedLane_fine {held : Bool} {l : Lane} (h : l.fine held) (plan : Option ScopePlan) :
    (settledLane (plannedLane plan l)).fine held := by
  refine ⟨appliedLane_stands h.stands plan, ?_⟩
  rw [appliedLane_eq]
  exact h.link

theorem applyTake_locks (n : LaneIx) : (applyTake lost t s).locks n ↔ s.locks n := by
  unfold State.locks
  rw [applyTake_inputState]

/-- A port after a plan is applied: on the clock the plan gives, a held sample kept only on the same clock (R130, R136). -/
theorem plannedPort_sound {x : Port} (h : x.stands ∧ x.clock = clockUnder s x.plan.clock) (plan : Option ScopePlan) :
    (settledPort (plannedPort s plan x)).stands
      ∧ (settledPort (plannedPort s plan x)).clock = clockUnder s (settledPort (plannedPort s plan x)).plan.clock := by
  obtain ⟨hx, hc⟩ := h
  unfold plannedPort
  split
  next _ new =>
    refine ⟨⟨hx.ranges, ?_, hx.staging, hx.timers, hx.due, hx.shut⟩, rfl⟩
    change (if clockUnder s new.clock = x.clock then x.heldSamples else 0) = 0 ∨
      ((if clockUnder s new.clock = x.clock then x.heldSamples else 0) = 1 ∧ x.position = 0
        ∧ clockUnder s new.clock ≠ .station)
    split
    next hsame => rw [hsame]; exact hx.held
    next => exact .inl rfl
  next => exact ⟨⟨hx.ranges, hx.held, hx.staging, hx.timers, hx.due, hx.shut⟩, hc⟩

theorem plannedPort_receives (s : State) (plan : Option ScopePlan) (x : Port) :
    (settledPort (plannedPort s plan x)).receiveEnable = x.receiveEnable
      ∧ (settledPort (plannedPort s plan x)).absence = x.absence := by
  unfold plannedPort
  split <;> exact ⟨rfl, rfl⟩

theorem applyTake_port (p : PortIx) :
    (applyTake lost t s).ports[p] = s.ports[p] ∨
      (applyTake lost t s).ports[p] = settledPort (plannedPort s t.plan s.ports[p]) := by
  rcases scope_cases t.scope with ⟨n, h⟩ | ⟨q, h⟩
  · rw [applyTake_ports_of_lane h]
    exact .inl rfl
  · rw [applyTake_ports_of_port h, modifyAt_getElem]
    split
    next hq => subst hq; exact .inr rfl
    next => exact .inl rfl

theorem applyTake_lane_cases (n : LaneIx) :
    (applyTake lost t s).lanes[n] = s.lanes[n] ∨
      (applyTake lost t s).lanes[n] = settledLane (plannedLane t.plan s.lanes[n]) := by
  rcases scope_cases t.scope with ⟨m, h⟩ | ⟨q, h⟩
  · rw [applyTake_lanes_of_lane h, modifyAt_getElem]
    split
    next hm => subst hm; exact .inr rfl
    next => exact .inl rfl
  · rw [applyTake_lanes_of_port h]
    exact .inl rfl

/-- An application of a take that could be committed keeps every invariant. -/
theorem applyTake_steady (busy : Option LaneIx) (hfit : s.entriesSound → t.fits) :
    Steady busy s (applyTake lost t s) where
  entries := fun h => applyTake_entriesSound lost (hfit h) h
  take := fun _ k hk => by rw [applyTake_take] at hk; cases hk
  lanes := fun h n => by
    rw [applyTake_resetHeld]
    rcases applyTake_lane_cases (s := s) (t := t) lost n with hn | hn <;> rw [hn]
    · exact h n
    · exact appliedLane_fine (h n) _
  pass := fun n _ h => by
    rcases applyTake_lane_cases (s := s) (t := t) lost n with hn | hn <;> rw [hn]
    · exact h
    · rw [appliedLane_eq]
      exact h
  presence := by
    refine presenceSound_of (fun i => by rw [applyTake_sources]; exact id) (fun n => (applyTake_locks lost n).2)
      (fun p => ?_) fun p => ?_
    all_goals
      rcases applyTake_port (s := s) (t := t) lost p with hp | hp <;> rw [hp]
    · exact id
    · rw [(plannedPort_receives s t.plan _).1]
      exact id
    · exact fun _ => id
    · rw [(plannedPort_receives s t.plan _).2]
      exact fun _ => id
  ports := fun h p => by
    have hp := h p
    rw [Port.sound_iff] at hp ⊢
    rw [clockUnder_congr fun n => applyTake_locks lost n]
    rcases applyTake_port (s := s) (t := t) lost p with hq | hq <;> rw [hq]
    · exact hp
    · exact plannedPort_sound hp _
  marks := marksSound_of (.of_ref (applyTake_ref ..)) fun n => (applyTake_locks lost n).2
  locks := fun n => applyTake_locks lost n

end

/-! ### The take put in place (R151 to R155, R161) -/

section
variable {busy : Option LaneIx} {s : State} {t : Take} {undo : Vector (List UndoRecord) 10}
  (hfit : s.entriesSound → t.fits) (hundo : ∀ i : Iface, ∀ u ∈ undo[i], u ∈ s.undo[i])
include hfit hundo

theorem setTake_entriesSound (h : s.entriesSound) : ({ s with take := some t, undo := undo } : State).entriesSound := by
  refine ⟨h.1, h.2.1, fun k hk => ?_, fun i u hu => h.2.2.2 i u (hundo i u hu)⟩
  obtain rfl := Option.mem_some.1 hk
  exact hfit h

theorem setTake_steady (hexpiry : s.takeSound → t.expiry ≤ 96000)
    (hwait : ∀ n : LaneIx, t.state = .pending → t.scope = laneScope n → s.locks n) :
    Steady busy s { s with take := some t, undo := undo } where
  entries := setTake_entriesSound hfit hundo
  take := fun h k hk => by
    obtain rfl := Option.mem_some.1 hk
    exact ⟨hexpiry h, hwait⟩
  lanes := id
  pass := fun _ _ => id
  presence := id
  ports := id
  marks := id
  locks := fun _ => Iff.rfl

/-- A take made PENDING waits for its boundary or is applied at once (R155, R157, R161). -/
theorem applyIfIdle_steady (hexpiry : s.takeSound → t.expiry ≤ 96000) :
    Steady busy s (applyIfIdle t { s with take := some t, undo := undo }) := by
  by_cases hun : ∃ n : LaneIx, t.scope = laneScope n ∧ ¬ s.locks n
  · obtain ⟨n, hn, hl⟩ := hun
    rw [applyIfIdle_applies (s := { s with take := some t, undo := undo }) hn hl]
    have hsteady := applyTake_steady (s := { s with take := some t, undo := undo }) (t := t) none busy
      fun h => h.2.2.1 t rfl
    exact { hsteady with
      entries := fun h => hsteady.entries (setTake_entriesSound hfit hundo h)
      take := fun _ k hk => by rw [applyTake_take] at hk; cases hk }
  · have hwait (n : LaneIx) (hn : t.scope = laneScope n) : s.locks n := by
      by_contra hl
      exact hun ⟨n, hn, hl⟩
    rw [applyIfIdle_waits (s := { s with take := some t, undo := undo }) hwait]
    exact setTake_steady hfit hundo hexpiry fun n _ => hwait n

end

end Sys2Proof.Machine
end

section
/-! Every request keeps the invariants of O56 and O59, and leaves the same lanes LOCKED. -/

namespace Sys2Proof.Machine

/-! ### The room and form tests (R25, R163) -/

section
variable {busy : Option LaneIx} {s : State}

theorem refuse_steady (i : Iface) (tag : Word) (kind : Byte) : Steady busy s (refuse i tag kind s) :=
  Steady.queueReply ..

theorem withRoom_steady {act : State → State} (h : Steady busy s (act s)) : Steady busy s (withRoom s act) := by
  unfold withRoom
  split
  · exact h
  · exact Steady.of

theorem withIndex_steady {n : Nat} {i : Iface} {tag : Word} {kind : Byte} {params : List Word}
    {act : Fin n → State → State} (h : ∀ k, Steady busy s (act k s)) :
    Steady busy s (withIndex n i tag kind params s act) := by
  refine withRoom_steady ?_
  split
  · split
    · exact h _
    · exact refuse_steady ..
  · exact refuse_steady ..

theorem withoutParams_steady {i : Iface} {tag : Word} {kind : Byte} {params : List Word} {act : State → State}
    (h : Steady busy s (act s)) : Steady busy s (withoutParams i tag kind params s act) := by
  refine withRoom_steady ?_
  split
  · exact h
  · exact refuse_steady ..

theorem Steady.queued {t : State} (h : Steady busy s t) (i : Iface) (status : Status) (tag : Word) (kind : Byte)
    (data : List Word) : Steady busy s (Machine.queueReply i status tag kind data t) :=
  h.trans (.queueReply ..)

end

/-! ### Settings of the frame count unit (R143) -/

section
variable (busy : Option LaneIx) (s : State)

theorem rcEvent_steady (f : Option Format) : Steady busy s (rcEvent f s) := by
  refine Steady.of (marks := ⟨fun n hn => .inl ⟨hn, fun hr ho => ⟨hr, ho⟩⟩, fun n hn => ?_⟩)
  simp only [rcEvent, State.modifyRef_ref, updateAll_getElem_fin, Bool.or_eq_true, Bool.and_eq_true,
    decide_eq_true_eq] at hn
  exact hn.imp_right And.left

theorem applySettings_steady (reference marks : Word) : Steady busy s (applySettings reference marks s) := by
  refine Steady.of (marks := ⟨fun n hn => .inl ?_, fun n hn => .inl hn⟩)
  simp only [applySettings, State.modifyRef_ref, setSettings, updateAll_getElem_fin] at hn ⊢
  split at hn
  next hkept => exact ⟨hn, fun _ _ => hkept⟩
  next => cases hn

/-- A change of the frame count unit that keeps role, mark outputs, marks and flags. -/
theorem modifyRef_steady {f : Reference → Reference} (hrole : (f s.ref).role = s.ref.role)
    (hout : (f s.ref).markOut = s.ref.markOut) (hmark : (f s.ref).pendingMark = s.ref.pendingMark)
    (hflag : (f s.ref).realign = s.ref.realign) : Steady busy s (s.modifyRef f) := by
  refine Steady.of (marks := ⟨fun n hn => .inl ?_, fun n hn => .inl ?_⟩)
  · rw [State.modifyRef_ref, hmark] at hn
    rw [State.modifyRef_ref, hrole, hout]
    exact ⟨hn, fun hr ho => ⟨hr, ho⟩⟩
  · rwa [State.modifyRef_ref, hflag] at hn

theorem setReference_steady (i : Iface) (tag : Word) (params : List Word) :
    Steady busy s (setReference i tag params s) := by
  refine withRoom_steady ?_
  split
  · exact (applySettings_steady ..).queued ..
  · split
    · refine Steady.queued ?_ ..
      exact ((applySettings_steady ..).trans (modifyRef_steady _ _ rfl rfl rfl rfl)).trans (rcEvent_steady ..)
    · exact refuse_steady ..
  · exact refuse_steady ..

theorem setSource_steady (i : Iface) (tag : Word) (params : List Word) : Steady busy s (setSource i tag params s) := by
  refine withRoom_steady ?_
  split
  · split
    · refine Steady.queued ?_ ..
      exact Steady.modifySource fun _ => rfl
    · exact refuse_steady ..
  · exact refuse_steady ..

/-! ### Settings of a port (R128, R131) -/

theorem setChannels_steady (p : PortIx) (runs : ChanIx → Bool) : Steady busy s (setChannels p runs s) :=
  Steady.updateDests.trans (Steady.modifyPort ⟨⟨rfl, rfl, fun h =>
    ⟨h.ranges, h.held, h.staging, h.timers, h.due, h.shut⟩⟩, id, fun _ => id⟩)

theorem setReceive_steady (p : PortIx) (enable : Bool) : Steady busy s (setReceive p enable s) := by
  unfold setReceive
  split
  · refine Steady.modifyPort ⟨⟨rfl, rfl, fun h => ?_⟩, fun _ => rfl, fun _ => id⟩
    exact ⟨h.ranges, h.held, h.staging, h.timers, h.due, fun e => by cases e⟩
  split
  · refine Steady.ofPresence (presence := fun h => ⟨fun n g k => ?_, fun q c k => ?_⟩) (ports := fun q => ?_)
    · simp only [absentPort, State.updateSources_sources, updateAll_getElem_fin, trackPlace_laneTrack, reduceCtorEq,
        if_false]
      exact h.1 n g k
    · by_cases hq : q = p
      · subst hq
        simp [absentPort]
      · have hport : (modifyAt s.ports p stopReceive)[q] = s.ports[q] := modifyAt_getElem_ne _ (Ne.symm hq) _
        simp only [absentPort, State.updateSources_sources, updateAll_getElem_fin, trackPlace_portTrack,
          Place.port.injEq, if_neg hq]
        intro hp
        obtain ⟨hr, ha⟩ := h.2 q c k hp
        exact ⟨(congrArg Port.receiveEnable hport).trans hr,
          (congrArg (fun x : Port => (x.absence[c]).isSome) hport).trans ha⟩
    · simp only [absentPort, State.updateSources_ports, State.modifyPort_ports, modifyAt_getElem]
      split
      next hq =>
        subst hq
        refine ⟨rfl, rfl, fun h => ⟨h.ranges, h.held, rfl, fun c t ht => ?_, fun c => ?_,
          fun _ => ⟨rfl, rfl, rfl, rfl, rfl⟩⟩⟩
        · simp [stopReceive] at ht
        · simp [stopReceive]
      next => exact (PortStays.refl _).toClockStays
  · exact Steady.refl ..

theorem haltTransmit_steady (p : PortIx) (state : TransmitState) : Steady busy s (haltTransmit p state s) :=
  (Steady.modifyPort ⟨⟨rfl, rfl, fun h => ⟨h.ranges, h.held, h.staging, h.timers, h.due, h.shut⟩⟩, id,
    fun _ => id⟩).trans (setChannels_steady ..)

theorem setTransmit_steady (p : PortIx) (enable : Bool) : Steady busy s (setTransmit p enable s) := by
  unfold setTransmit
  split
  · refine Steady.modifyPort ⟨⟨rfl, rfl, fun h => ?_⟩, id, fun _ => id⟩
    exact ⟨⟨Nat.zero_le _, h.ranges.2⟩, h.held, h.staging, h.timers, h.due, h.shut⟩
  · exact Steady.refl ..
  · exact Steady.refl ..
  · exact haltTransmit_steady ..

theorem setPort_steady (i : Iface) (tag : Word) (params : List Word) : Steady busy s (setPort i tag params s) := by
  refine withRoom_steady ?_
  split
  · split
    · exact ((setReceive_steady ..).trans (setTransmit_steady ..)).queued ..
    · exact refuse_steady ..
  · exact refuse_steady ..

/-! ### Counters and reset (R169, R170) -/

theorem zeroCounters_steady : Steady busy s (zeroCounters s) := by
  refine Steady.of (lanes := fun n => ?_) (pass := fun n _ => ?_) (present := fun i => ?_) (ports := fun p => ?_)
    (marks := ⟨fun n hn => .inl ⟨hn, fun hr ho => ⟨hr, ho⟩⟩, fun n hn => .inl hn⟩)
  all_goals simp only [zeroCounters, updateAll_getElem_fin]
  · exact ⟨rfl, Iff.rfl, fun h => ⟨⟨h.stands.count, h.stands.closed, h.stands.line, h.stands.queues, h.stands.still,
      h.stands.silent, h.stands.locked⟩, h.link⟩⟩
  · exact id
  · exact id
  · exact ⟨⟨rfl, rfl, fun h => ⟨h.ranges, h.held, h.staging, h.timers, h.due, h.shut⟩⟩, id, fun _ => id⟩

theorem resetLane_stays (held : Bool) (l : Lane) : LaneStays held l (resetLane l) := by
  refine ⟨rfl, Iff.rfl, fun h => ⟨⟨h.stands.count, h.stands.closed, h.stands.line, fun g => .inr ?_, fun hl => ?_,
    h.stands.silent, h.stands.locked⟩, h.link⟩⟩
  · simp [resetLane]
  · have := h.stands.still hl
    simp_all [Lane.quiet, resetLane]

theorem resetPort_stays (x : Port) : ClockStays x (resetPort x) := by
  refine ⟨rfl, rfl, fun h => ⟨⟨Nat.zero_le _, h.ranges.2⟩, h.held, rfl, fun c t ht => ?_, fun c => ?_,
    fun _ => ⟨rfl, rfl, rfl, rfl, rfl⟩⟩⟩
  · simp [resetPort] at ht
  · simp [resetPort]

theorem resetBlocks_steady : Steady busy s (resetBlocks s) := by
  have habsent (i : SourceIx) : ((resetBlocks s).sources[i]).present = false := by
    simp only [resetBlocks, updateAll_getElem_fin]
    rfl
  refine Steady.ofPresence (presence := fun _ => ⟨fun n g k => ?_, fun p c k => ?_⟩) (take := .none _)
    (undo := fun i u hu => ?_) (lanes := fun n => ?_) (pass := fun n _ => ?_) (ports := fun p => ?_)
    (marks := ⟨fun n hn => ?_, fun n hn => ?_⟩)
  · rw [habsent]; exact fun h => by cases h
  · rw [habsent]; exact fun h => by cases h
  · simp [resetBlocks] at hu
  · simp only [resetBlocks, updateAll_getElem_fin]
    exact resetLane_stays ..
  · simp only [resetBlocks, updateAll_getElem_fin]
    exact id
  · simp only [resetBlocks, updateAll_getElem_fin]
    exact resetPort_stays _
  · simp [resetBlocks, resetReference] at hn
  · simp [resetBlocks, resetReference] at hn

/-! ### Take requests (R150 to R156, R161) -/

theorem readCandidates_length {ws : List Word} {cs : List SourceIx} (h : readCandidates ws = some cs) :
    cs.length = ws.length := by
  induction ws generalizing cs with
  | nil => cases h; rfl
  | cons w ws ih =>
    simp only [readCandidates] at h
    split at h
    · obtain ⟨rest, hrest, rfl⟩ := Option.map_eq_some_iff.1 h
      simp [ih hrest]
    · cases h

/-- An entry that passes the tests of R152 could be committed on the take's scope. -/
theorem testRoute_ok {t : Take} {dest flags codes gain delay : Word} {candidates : List Word} {d : DestIx} {e : RouteEntry}
    (hlen : candidates.length = countField flags)
    (h : testRoute t dest flags codes gain delay candidates = .ok (d, e)) : trackScope d = t.scope ∧ e.sound = true := by
  unfold testRoute at h
  split at h
  · cases h
  split at h
  · cases h
  next hscope =>
  split at h
  · cases h
  next hcount =>
  split at h
  · cases h
  next cs hcs =>
  split at h
  next hnodup =>
    cases h
    have hn := readCandidates_length hcs
    refine ⟨by simpa using hscope, ?_⟩
    simp only [RouteEntry.sound, readEntry, clampDelay, Bool.and_eq_true, Bool.or_eq_true,
      Bool.not_eq_true', List.isEmpty_eq_false_iff]
    refine ⟨decide_eq_true ⟨by omega, hnodup, by omega, by omega⟩, ?_⟩
    by_cases hen : flags.getLsbD 0 = true
    · right
      rintro rfl
      simp only [List.length_nil] at hn
      exact hcount (.inr ⟨by omega, hen⟩)
    · exact .inl (by simpa using hen)
  · cases h

theorem mem_latchEntry {latches : List (DestIx × RouteEntry)} {d : DestIx} {e : RouteEntry} {c : DestIx × RouteEntry}
    (h : c ∈ latchEntry latches d e) : c = (d, e) ∨ c ∈ latches := by
  induction latches with
  | nil => simpa [latchEntry] using h
  | cons x rest ih =>
    simp only [latchEntry] at h
    split at h
    · simpa using h
    split at h
    · rcases List.mem_cons.1 h with h | h
      · exact .inl h
      · exact .inr (List.mem_cons_of_mem _ h)
    · rcases List.mem_cons.1 h with h | h
      · exact .inr (by simp [h])
      · exact (ih h).imp_right (List.mem_cons_of_mem _)

theorem latchEntry_sorted {latches : List (DestIx × RouteEntry)} (h : (latches.map Prod.fst).Pairwise (· < ·))
    (d : DestIx) (e : RouteEntry) : ((latchEntry latches d e).map Prod.fst).Pairwise (· < ·) := by
  induction latches with
  | nil => simp [latchEntry]
  | cons x rest ih =>
    simp only [List.map_cons, List.pairwise_cons] at h
    obtain ⟨hx, hrest⟩ := h
    simp only [latchEntry]
    split
    next hlt =>
      simp only [List.map_cons, List.pairwise_cons, List.mem_cons, forall_eq_or_imp]
      exact ⟨⟨hlt, fun a ha => hlt.trans (hx a ha)⟩, hx, hrest⟩
    next hge =>
      split
      next heq =>
        subst heq
        simp only [List.map_cons, List.pairwise_cons]
        exact ⟨hx, hrest⟩
      next hne =>
        simp only [List.map_cons, List.pairwise_cons]
        refine ⟨fun a ha => ?_, ih hrest⟩
        obtain ⟨c, hc, rfl⟩ := List.mem_map.1 ha
        rcases mem_latchEntry hc with rfl | hc
        · exact lt_of_le_of_ne (not_lt.1 hge) (Ne.symm hne)
        · exact hx c.1 (List.mem_map_of_mem hc)

theorem latchRoute_fits {t : Take} (h : t.fits) {d : DestIx} {e : RouteEntry} (hd : trackScope d = t.scope)
    (he : e.sound = true) : (latchRoute t d e).fits := by
  obtain ⟨hl, hp⟩ := h
  obtain ⟨hsorted, hall⟩ := (latchesFit_iff _ _).1 hl
  refine ⟨(latchesFit_iff _ _).2 ⟨latchEntry_sorted hsorted d e, fun c hc => ?_⟩, hp⟩
  rcases mem_latchEntry hc with rfl | hc
  · exact ⟨hd, he⟩
  · exact hall c hc

theorem readPlan_fits (scope : Iface) (a b : Word) : (readPlan scope a b).fits scope = true := by
  rcases scope_cases scope with ⟨n, rfl⟩ | ⟨p, rfl⟩
  · simp only [readPlan, ifacePlace_laneScope, fits_lane_laneScope, LanePlan.sound, readLanePlan, readBudget]
    split
    · rfl
    · simp only [Option.all_some, decide_eq_true_eq]
      omega
  · simp only [readPlan, ifacePlace_portScope, ScopePlan.fits]

section
variable {s} {i : Iface} {t : Take} (h : ownTake i s = .ok t)
include h

theorem ownTake_fits (hs : s.entriesSound) : t.fits :=
  hs.2.2.1 t ((ownTake_ok_iff i s t).1 h).1

theorem ownTake_opened : t.state ≠ .pending := by
  obtain ⟨-, -, ho⟩ := (ownTake_ok_iff i s t).1 h
  simp [ho]

theorem ownTake_expiry (hs : s.takeSound) : t.expiry ≤ 96000 :=
  (hs t ((ownTake_ok_iff i s t).1 h).1).1

end

theorem openTake_steady (i : Iface) (tag : Word) (params : List Word) : Steady busy s (openTake i tag params s) := by
  refine withIndex_steady fun scope => ?_
  split
  · exact Steady.queueReply ..
  · refine Steady.queued (setTake_steady (undo := s.undo) (fun _ => ⟨rfl, fun _ hp => by cases hp⟩) (fun _ _ h => h)
      (fun _ => Nat.zero_le _) fun _ hp => by cases hp) ..

theorem setRoute_steady (i : Iface) (tag : Word) (params : List Word) : Steady busy s (setRoute i tag params s) := by
  refine withRoom_steady ?_
  split
  · split
    next hlen =>
      unfold routeRequest
      split
      · exact Steady.queueReply ..
      next t ht =>
        split
        · exact Steady.queueReply ..
        next d e hde =>
          obtain ⟨hd, he⟩ := testRoute_ok hlen hde
          exact Steady.queued (setTake_steady (undo := s.undo) (fun hs => latchRoute_fits (ownTake_fits ht hs) hd he)
            (fun _ _ h => h) (fun _ => Nat.zero_le _) fun _ hp => (ownTake_opened ht hp).elim) ..
    · exact refuse_steady ..
  · exact refuse_steady ..

theorem setPlan_steady (i : Iface) (tag : Word) (params : List Word) : Steady busy s (setPlan i tag params s) := by
  refine withRoom_steady ?_
  split
  next w a b =>
    split
    · exact refuse_steady ..
    next scope _ =>
      split
      · exact Steady.queueReply ..
      next t ht =>
        split
        · exact Steady.queueReply ..
        next hscope =>
          refine Steady.queued (setTake_steady (undo := s.undo)
            (t := { t with plan := some (readPlan scope a b), expiry := 0 }) (fun hs => ?_) (fun _ _ h => h)
            (fun _ => Nat.zero_le _) fun _ hp => (ownTake_opened ht hp).elim) ..
          refine ⟨(ownTake_fits ht hs).1, fun plan hplan => ?_⟩
          obtain rfl := Option.mem_some.1 hplan
          obtain rfl : scope = t.scope := by simpa using hscope
          exact readPlan_fits ..
  · exact refuse_steady ..

theorem commitTake_steady (i : Iface) (tag : Word) (params : List Word) :
    Steady busy s (commitTake i tag params s) := by
  refine withoutParams_steady ?_
  split
  · exact Steady.queueReply ..
  next t ht =>
    exact applyIfIdle_steady (t := committed t tag) (undo := s.undo)
      (fun hs => show t.fits from ownTake_fits ht hs) (fun _ _ h => h)
      fun hs => show t.expiry ≤ 96000 from ownTake_expiry ht hs

theorem abandonTake_steady (i : Iface) (tag : Word) (params : List Word) :
    Steady busy s (abandonTake i tag params s) := by
  refine withoutParams_steady ?_
  split
  · exact Steady.queueReply ..
  · exact Steady.queued (Steady.of (take := .none _)) ..

theorem undoTake_steady (i : Iface) (tag : Word) (params : List Word) : Steady busy s (undoTake i tag params s) := by
  refine withIndex_steady fun scope => ?_
  split
  · exact Steady.queueReply ..
  · split
    · exact Steady.queueReply ..
    next record rest hundo =>
      refine applyIfIdle_steady (fun hs => ?_) (fun j u hu => ?_) fun _ => Nat.zero_le _
      · exact hs.2.2.2 scope record (by rw [hundo]; exact List.mem_cons_self)
      · rw [modifyAt_getElem] at hu
        split at hu
        next hj =>
          subst hj
          rw [hundo]
          exact List.mem_cons_of_mem _ hu
        next => exact hu

/-! ### A request of any kind (R25, R163) -/

/-- A request taken from a lane or port keeps the invariants. -/
theorem takeRequest_steady (i : Iface) (kind : Byte) (tag : Word) (params : List Word) :
    Steady busy s (takeRequest i kind tag params s) := by
  unfold takeRequest
  split
  · exact withIndex_steady fun _ => Steady.queueReply ..
  · exact withIndex_steady fun _ => Steady.queueReply ..
  · refine withIndex_steady fun _ => Steady.queued ?_ ..
    exact Steady.modifySource fun _ => rfl
  · exact withIndex_steady fun _ => Steady.queueReply ..
  · exact withIndex_steady fun _ => Steady.queueReply ..
  · exact withoutParams_steady (Steady.queueReply ..)
  · exact withoutParams_steady (Steady.queueReply ..)
  · exact withoutParams_steady (Steady.queueReply ..)
  · exact setSource_steady ..
  · exact setReference_steady ..
  · exact setPort_steady ..
  · exact withoutParams_steady ((zeroCounters_steady ..).queued ..)
  · exact withoutParams_steady ((resetBlocks_steady ..).queued ..)
  · exact openTake_steady ..
  · exact setRoute_steady ..
  · exact setPlan_steady ..
  · exact commitTake_steady ..
  · exact abandonTake_steady ..
  · exact undoTake_steady ..
  · exact withRoom_steady (refuse_steady ..)

theorem handOver_steady (i : Iface) (payload : List Word) : Steady busy s (handOver i payload s) := by
  unfold handOver
  split
  · exact takeRequest_steady ..
  · exact Steady.refl ..

end

end Sys2Proof.Machine
end

section
/-! The events of a port and of the station clock, and the boundaries of a scope, keep the invariants of O56 and O59. -/

namespace Sys2Proof.Machine

/-! ### The clock of a port (R5, R129, R136) -/

/-- Held samples and at most two more fall: at most one is held, behind a port frame of a lane's clock (log entry 32). -/
theorem clockSamples_held {x : Port} (h : x.stands) {count : Nat} (hcount : count ≤ 2)
    (hclock : count = 0 ∨ x.clock ≠ .station) :
    (clockSamples count x).position < 1024 ∧ ((clockSamples count x).heldSamples = 0 ∨
      ((clockSamples count x).heldSamples = 1 ∧ (clockSamples count x).position = 0
        ∧ (clockSamples count x).clock ≠ .station)) := by
  obtain ⟨hpos, hcases⟩ := advanceBy_cases (x.heldSamples + count) { x with heldSamples := 0 } h.ranges.2
  refine ⟨hpos, ?_⟩
  rw [clockSamples_clock]
  change (clockSamples count x).heldSamples = 0 ∧ _ ∨ (clockSamples count x).position = 0 ∧ _
    ∧ (clockSamples count x).heldSamples < _ ∧ (clockSamples count x).heldSamples % 1024 = (x.position + _) % 1024 at hcases
  rcases hcases with ⟨hnone, -⟩ | ⟨hzero, -, hlt, hmod⟩
  · exact .inl hnone
  · rcases h.held with hh | ⟨hh, hp, -⟩
    · rcases hclock with hc | hc
      · omega
      · have hle : (clockSamples count x).heldSamples = 0 ∨ (clockSamples count x).heldSamples = 1 := by omega
        exact hle.imp_right fun h1 => ⟨h1, hzero, hc⟩
    · omega

theorem clockSamples_stays {x : Port} {count : Nat} (hcount : count ≤ 2) (hclock : count = 0 ∨ x.clock ≠ .station) :
    PortStays x (clockSamples count x) := by
  have hframe := clockSamples_frame count x
  refine ⟨⟨clockSamples_clock .., (congrArg (fun y : Port => y.plan.clock) hframe).trans rfl, fun h => ?_⟩,
    fun hr => (congrArg Port.receiveEnable hframe).trans hr,
    fun c hc => (congrArg (fun y : Port => (y.absence[c]).isSome) hframe).trans hc⟩
  obtain ⟨hpos, hheld⟩ := clockSamples_held h hcount hclock
  rw [hframe]
  rw [clockSamples_clock] at hheld
  exact ⟨⟨h.ranges.1, hpos⟩, hheld, h.staging, h.timers, h.due, h.shut⟩

theorem frameSamples_le (f : Format) (k : Nat) : frameSamples f k ≤ 2002 := by
  cases f <;> simp only [frameSamples] <;> omega

theorem lineSamples_le {S : Nat} (h : S ≤ 2240) (j : Nat) : lineSamples S j ≤ 2 := by
  simp only [lineSamples, Nat.add_mul, Nat.one_mul]
  omega

theorem lineCountOf_le (s : State) (n : LaneIx) (j : Nat) : lineCountOf s n j ≤ 2 := by
  unfold lineCountOf
  split
  · exact lineSamples_le ((frameSamples_le ..).trans (by decide)) j
  · exact Nat.zero_le _

section
variable {busy : Option LaneIx} (s : State)

/-! ### Boundaries of a scope (R83, R84, R157) -/

theorem settleLane_steady (n : LaneIx) : Steady busy s (settleLane n s) := by
  rw [settleLane_eq]
  exact Steady.updateDests.trans (Steady.modifyLane ⟨rfl, Iff.rfl, fun h => appliedLane_fine h none⟩ fun _ => id)

theorem settleScope_steady (scope : Iface) : Steady busy s (settleScope scope s) := by
  rcases scope_cases scope with ⟨n, rfl⟩ | ⟨p, rfl⟩
  · rw [settleScope_laneScope]
    exact settleLane_steady ..
  · rw [settleScope_portScope]
    exact setChannels_steady ..

theorem pendingOn_some {s : State} {scope : Iface} {t : Take} (h : pendingOn s scope = some t) :
    s.take = some t ∧ t.state = .pending ∧ t.scope = scope := by
  unfold pendingOn at h
  split at h
  next k hk =>
    split at h
    next hp => cases h; exact ⟨hk, hp⟩
    next => cases h
  next => cases h

theorem boundary_steady (scope : Iface) {between : State → State} (h : ∀ u, Steady busy u (between u)) :
    Steady busy s (boundary scope between s) := by
  cases hp : pendingOn s scope with
  | none =>
    rw [boundary_none hp]
    exact ((settleScope_steady ..).trans (h _)).trans Steady.updateDests
  | some t =>
    rw [boundary_some hp]
    have happly := applyTake_steady (s := s) (t := t) none busy fun hs => hs.2.2.1 t (pendingOn_some hp).1
    exact (happly.trans (h _)).trans Steady.updateDests

theorem setPhase_steady (n : LaneIx) : Steady busy s (setPhase n s) := by
  have hlane (l : Lane) (c : LaneCounters) : LaneStays s.resetHeld l { l with firstFrame := false, counters := c } := by
    refine ⟨rfl, Iff.rfl, fun h => ⟨⟨h.stands.count, h.stands.closed, h.stands.line, h.stands.queues, fun hl => ?_,
      h.stands.silent, h.stands.locked⟩, h.link⟩⟩
    have := h.stands.still hl
    simp_all [Lane.quiet]
  refine Steady.of (lanes := fun m => ?_) (pass := fun m _ => ?_)
    (marks := ⟨fun m hm => .inl ⟨hm, fun hr ho => ⟨hr, ho⟩⟩, fun m hm => .inl ?_⟩)
  · simp only [setPhase, modifyAt_getElem]
    split
    next hm => subst hm; exact hlane _ _
    next => exact LaneStays.refl ..
  · simp only [setPhase, modifyAt_getElem]
    split
    next hm => subst hm; exact id
    next => exact id
  · simp only [setPhase, modifyAt_getElem] at hm
    split at hm
    · cases hm
    · exact hm

theorem outputFrameStart_steady (n : LaneIx) : Steady busy s (outputFrameStart n s) := by
  unfold outputFrameStart
  split
  · exact boundary_steady _ _ fun _ => setPhase_steady ..
  · exact Steady.refl ..

/-- A change of a port's pins, counters, FIFOs and due events that leaves the receive side as it is. -/
theorem PortStays.of_transmit {x y : Port} (h : y = { x with
      outFifo := y.outFifo, nextCount := y.nextCount, transmit := y.transmit, stallTimer := y.stallTimer
      frameDue := y.frameDue, periodDue := y.periodDue, counters := y.counters, linkOut := y.linkOut
      running := y.running })
    (hstall : x.stallTimer ≤ 48000 → y.stallTimer ≤ 48000) : PortStays x y := by
  refine ⟨⟨?_, ?_, fun hx => ?_⟩, fun hr => ?_, fun c hc => ?_⟩
  all_goals rw [h]
  · exact ⟨⟨hstall hx.ranges.1, hx.ranges.2⟩, hx.held, hx.staging, hx.timers, hx.due, hx.shut⟩
  · exact hr
  · exact hc

theorem portFrame_steady (p : PortIx) : Steady busy s (portFrame p s) := by
  have hdue : Steady busy s (s.modifyPort p fun x => { x with frameDue := false }) :=
    Steady.modifyPort (.of_transmit rfl id)
  have hboundary := boundary_steady (busy := busy) (s.modifyPort p fun x => { x with frameDue := false })
    (portScope p) (between := id) fun u => Steady.refl busy u
  exact (hdue.trans hboundary).trans (Steady.modifyPort (clockSamples_stays (by decide) (.inl rfl)))

/-! ### Receiving (R122 to R127) -/

theorem receiveWord_steady (p : PortIx) (w : PortWord) : Steady busy s (s.modifyPort p (receiveWord w)) := by
  refine Steady.modifyPort ?_
  unfold receiveWord
  split
  next hr =>
    refine ⟨⟨rfl, rfl, fun h => ⟨h.ranges, h.held, h.staging, h.timers, h.due, fun hoff => ?_⟩⟩, id, fun _ => id⟩
    exact absurd hr.1 (by simpa using hoff)
  next => exact PortStays.refl _

theorem countDiscard_steady (p : PortIx) : Steady busy s (countDiscard p s) :=
  Steady.modifyPort (.of_transmit rfl id)

theorem setStaging_idle_steady (p : PortIx) : Steady busy s (setStaging p .idle s) :=
  Steady.modifyPort ⟨⟨rfl, rfl, fun h => ⟨h.ranges, h.held, rfl, h.timers, h.due, fun hoff =>
    ⟨(h.shut hoff).1, rfl, (h.shut hoff).2.2⟩⟩⟩, id, fun _ => id⟩

variable {s}

theorem setStaging_steady {p : PortIx} (hr : (s.ports[p]).receiveEnable = true) {g : Staging}
    (hg : (s.ports[p]).staging.sound = true → g.sound = true) : Steady busy s (setStaging p g s) := by
  refine Steady.modifyPort ⟨⟨rfl, rfl, fun h => ⟨h.ranges, h.held, hg h.staging, h.timers, h.due, fun hoff => ?_⟩⟩, id,
    fun _ => id⟩
  exact absurd hr (by simpa using hoff)

@[simp] theorem countDiscard_receives (p : PortIx) (s : State) :
    ((countDiscard p s).ports[p]).receiveEnable = (s.ports[p]).receiveEnable := by
  simp only [countDiscard, State.modifyPort_ports, modifyAt_getElem_self]

@[simp] theorem setStaging_receives (p : PortIx) (g : Staging) (s : State) :
    ((setStaging p g s).ports[p]).receiveEnable = (s.ports[p]).receiveEnable := by
  simp only [setStaging, State.modifyPort_ports, modifyAt_getElem_self]

/-- A change of the eight sources of a channel and of its port keeps presence where it keeps what the other channels rest on,
and gives what the sources it leaves present rest on (R61). -/
theorem updateChannel_steady {p : PortIx} {c : ChanIx} {f : Fin 8 → Source → Source} {g : Port → Port}
    (hclock : ClockStays s.ports[p] (g s.ports[p]))
    (hreceive : (s.ports[p]).receiveEnable = true → (g s.ports[p]).receiveEnable = true)
    (hother : ∀ d : ChanIx, d ≠ c → ((s.ports[p]).absence[d]).isSome = true → ((g s.ports[p]).absence[d]).isSome = true)
    (hchannel : ∀ t x, (f t x).present = true →
      (g s.ports[p]).receiveEnable = true ∧ ((g s.ports[p]).absence[c]).isSome = true) :
    Steady busy s ((updateChannel p c f s).modifyPort p g) := by
  have hself : ((updateChannel p c f s).modifyPort p g).ports[p] = g s.ports[p] := modifyAt_getElem_self ..
  have hne {q : PortIx} (hq : q ≠ p) : ((updateChannel p c f s).modifyPort p g).ports[q] = s.ports[q] :=
    modifyAt_getElem_ne _ (Ne.symm hq) _
  have hsource (q : PortIx) (d : ChanIx) (t : Fin 8) : ((updateChannel p c f s).modifyPort p g).sources[portTrack q d t] =
      if q = p ∧ d = c then f ⟨(portTrack q d t).val % 8, Nat.mod_lt _ (by decide)⟩ s.sources[portTrack q d t]
      else s.sources[portTrack q d t] := by
    simp only [State.modifyPort_sources, updateChannel, State.updateSources_sources, updateAll_getElem_fin,
      trackPlace_portTrack, trackChannel_portTrack, Place.port.injEq]
  refine Steady.ofPresence (presence := fun h => ⟨fun m k t => ?_, fun q d t => ?_⟩) (ports := fun q => ?_)
  · simp only [updateChannel, State.modifyPort_sources, State.updateSources_sources, updateAll_getElem_fin,
      trackPlace_laneTrack, reduceCtorEq, false_and, if_false]
    exact h.1 m k t
  · intro hp
    by_cases hc : q = p ∧ d = c
    · obtain ⟨rfl, rfl⟩ := hc
      rw [hsource, if_pos ⟨rfl, rfl⟩] at hp
      rw [hself]
      exact hchannel _ _ hp
    · rw [hsource, if_neg hc] at hp
      by_cases hq : q = p
      · subst hq
        rw [hself]
        exact (h.2 q d t hp).imp hreceive (hother d fun hd => hc ⟨rfl, hd⟩)
      · rw [hne hq]
        exact h.2 q d t hp
  · by_cases hq : q = p
    · subst hq
      rw [hself]
      exact hclock
    · rw [hne hq]
      exact (PortStays.refl _).toClockStays

/-- A good bundle makes its channel's sources present and starts the channel's timer (R61, R125). -/
theorem goodBundle_steady {p : PortIx} (hr : (s.ports[p]).receiveEnable = true) (c : ChanIx) (count : Byte) (n : Nat)
    (body : List Word) : Steady busy s (goodBundle p c count n body s) := by
  refine updateChannel_steady ⟨rfl, rfl, fun h => ⟨h.ranges, h.held, h.staging, fun d => ?_, fun d => ?_, fun hoff => ?_⟩⟩
    id (fun d hd => ?_) fun _ _ _ => ⟨hr, ?_⟩
  · rw [modifyAt_getElem]
    split
    · simp
    · exact h.timers d
  · simp only [modifyAt_getElem]
    split
    · simp
    · exact h.due d
  · exact absurd hr (by simpa using hoff)
  · rw [modifyAt_getElem_ne _ (Ne.symm hd)]
    exact id
  · rw [modifyAt_getElem_self]
    rfl

theorem judgeBundle_steady {p : PortIx} (hr : (s.ports[p]).receiveEnable = true) (channel : Nat) (count : Byte) (n : Nat)
    (words : List Word) (length : Nat) : Steady busy s (judgeBundle p channel count n words length s) := by
  unfold judgeBundle
  split
  · split
    · exact goodBundle_steady hr ..
    · exact countDiscard_steady ..
  split
  · split
    · unfold controlBundleTaken
      split
      · exact handOver_steady ..
      · exact Steady.refl ..
    · exact countDiscard_steady ..
  · exact countDiscard_steady ..

theorem readMarker_start {w : Word} {c : Nat} (h : readMarker w = .start c) : (Staging.header c).sound = true := by
  unfold readMarker at h
  split at h
  · cases h
    exact decide_eq_true (Nat.mod_lt _ (by decide))
  · cases h
  · cases h

theorem stageWord_steady {p : PortIx} (hr : (s.ports[p]).receiveEnable = true) (w : PortWord) :
    Steady busy s (stageWord p w s) := by
  have hdiscard {g : Staging} (hg : g.sound = true) : Steady busy s (setStaging p g (countDiscard p s)) :=
    (countDiscard_steady s p).trans (setStaging_steady (by rw [countDiscard_receives]; exact hr) fun _ => hg)
  unfold stageWord
  split
  · unfold stageIdle
    split
    · split
      next hc => exact setStaging_steady hr fun _ => readMarker_start hc
      next => exact Steady.refl ..
    · exact Steady.refl ..
  next c hst =>
    unfold stageHeader
    split
    · split
      next hc => exact hdiscard (readMarker_start hc)
      next => exact hdiscard rfl
    · refine setStaging_steady hr fun h => ?_
      rw [hst] at h
      exact decide_eq_true ⟨of_decide_eq_true h, Nat.mod_lt _ (by decide), rfl⟩
  next c count n words length hst =>
    unfold stageBody
    split
    · split
      next hc => exact hdiscard (readMarker_start hc)
      next => exact (setStaging_idle_steady s p).trans (judgeBundle_steady (by rw [setStaging_receives]; exact hr) ..)
      next => exact (setStaging_idle_steady s p).trans (countDiscard_steady ..)
    · refine setStaging_steady hr fun h => ?_
      rw [hst] at h
      obtain ⟨hc, hn, hwords⟩ := of_decide_eq_true h
      refine decide_eq_true ⟨hc, hn, ?_⟩
      simp only [extendBody]
      split
      · rw [List.length_append, List.length_singleton]
        omega
      · omega

theorem takeStagingWord_steady (p : PortIx) : Steady busy s (takeStagingWord p s) := by
  unfold takeStagingWord
  split
  next w rest hr _ =>
    refine Steady.trans (Steady.modifyPort ⟨⟨rfl, rfl, fun h => ?_⟩, id, fun _ => id⟩) (stageWord_steady ?_ w)
    · exact ⟨h.ranges, h.held, h.staging, h.timers, h.due, fun hoff => absurd hr (by simpa using hoff)⟩
    · simp only [State.modifyPort_ports, modifyAt_getElem_self]
      exact hr
  next => exact Steady.refl ..

theorem timerAfterTimeout_lt {a : Option Nat} {k : Nat} (h : timerAfterTimeout a = some k) : k < 2048 := by
  unfold timerAfterTimeout at h
  split at h
  · split at h
    · cases h; assumption
    · cases h
  · cases h

theorem modifyAt_replicate {α : Type} {n : Nat} (a : α) (i : Fin n) {f : α → α} (h : f a = a) :
    modifyAt (Vector.replicate n a) i f = Vector.replicate n a := by
  refine vector_ext_fin fun k => ?_
  rw [modifyAt_getElem]
  split <;> simp [h]

theorem absenceTimeout_stays (c : ChanIx) (x : Port) :
    ClockStays x { x with
      absence := modifyAt x.absence c timerAfterTimeout
      absenceDue := modifyAt x.absenceDue c fun _ => false } := by
  refine ⟨rfl, rfl, fun h => ⟨h.ranges, h.held, h.staging, fun d t ht => ?_, fun d => ?_, fun hoff => ?_⟩⟩
  · simp only [modifyAt_getElem] at ht
    split at ht
    · exact (timerAfterTimeout_lt ht).le
    · exact h.timers d t ht
  · simp only [modifyAt_getElem]
    split
    · exact ⟨fun e => absurd (timerAfterTimeout_lt e) (by decide), fun e => by cases e⟩
    · exact h.due d
  · obtain ⟨h1, h2, h3, h4, h5⟩ := h.shut hoff
    exact ⟨h1, h2, h3, by simp only [h4]; exact modifyAt_replicate _ _ rfl,
      by simp only [h5]; exact modifyAt_replicate _ _ rfl⟩

/-- The timeout of a channel: its sources are absent, its timer stopped or as a bundle restarted it (R127). -/
theorem absenceTimeout_steady (p : PortIx) (c : ChanIx) : Steady busy s (absenceTimeout p c s) := by
  refine updateChannel_steady (absenceTimeout_stays c _) id (fun d hd => ?_) fun _ _ hp => by simp at hp
  rw [modifyAt_getElem_ne _ (Ne.symm hd)]
  exact id

/-! ### Transmitting (R131 to R135) -/

variable (s)

theorem writeReply_steady (p : PortIx) : Steady busy s (writeReply p s) := by
  unfold writeReply
  split
  · split
    · exact Steady.trans (Steady.modifyPort (.of_transmit rfl id)) Steady.of
    · exact Steady.refl ..
  · exact Steady.refl ..

theorem portPeriod_steady (p : PortIx) : Steady busy s (portPeriod p s) := by
  have hcount (u : State) : Steady busy u (countPeriod p u) := Steady.modifyPort (.of_transmit rfl id)
  unfold portPeriod
  split
  · refine Steady.trans (Steady.trans (Steady.trans Steady.updateDests (Steady.modifyPort ?_)) (writeReply_steady ..))
      (hcount _)
    refine .of_transmit ?_ ?_
    · rw [writeChannels_frame]
    · rw [writeChannels_frame]
      exact id
  · exact hcount s
  · exact Steady.refl ..

theorem stallPort_steady (p : PortIx) : Steady busy s (stallPort p s) := by
  unfold stallPort
  split
  · exact (haltTransmit_steady ..).trans (Steady.modifyPort (.of_transmit rfl fun _ => Nat.le_refl _))
  · exact Steady.refl ..

theorem giveWord_steady (p : PortIx) : Steady busy s (s.modifyPort p giveWord) := by
  refine Steady.modifyPort ?_
  unfold giveWord
  split
  · exact PortStays.refl _
  · refine .of_transmit rfl fun h => ?_
    dsimp only
    split
    · exact Nat.zero_le _
    · exact h

/-! ### The station clock (R127, R129, R132, R154) -/

theorem tickTimer_isSome (a : Option Nat) : (tickTimer a).isSome = a.isSome := by
  simp [tickTimer]

theorem tickPort_stays (x : Port) : PortStays x (tickPort x) := by
  have htimer (c : ChanIx) : (x.absence.map tickTimer)[c] = tickTimer x.absence[c] := by simp
  have hdue (c : ChanIx) : (updateAll x.absenceDue fun c due => due || timerExpires x.absence[c])[c] =
      (x.absenceDue[c] || timerExpires x.absence[c]) := updateAll_getElem_fin ..
  have hticked : PortStays x { x with
      absence := x.absence.map tickTimer
      absenceDue := updateAll x.absenceDue fun c due => due || timerExpires x.absence[c]
      stallTimer := tickStall x } := by
    refine ⟨⟨rfl, rfl, fun h => ⟨⟨?_, h.ranges.2⟩, h.held, h.staging, fun c t ht => ?_, fun c => ?_,
      fun hoff => ?_⟩⟩, id, fun c hc => ?_⟩
    · have := h.ranges.1
      simp only [tickStall]
      split <;> omega
    · rw [htimer, tickTimer, Option.mem_def, Option.map_eq_some_iff] at ht
      obtain ⟨_, -, rfl⟩ := ht
      omega
    · simp only [htimer, hdue, tickTimer_isSome, Bool.or_eq_true]
      refine ⟨fun e => .inr (decide_eq_true e), ?_⟩
      rintro (e | e)
      · exact (h.due c).2 e
      · rw [← tickTimer_isSome, of_decide_eq_true e]
        rfl
    · obtain ⟨h1, h2, h3, h4, h5⟩ := h.shut hoff
      refine ⟨h1, h2, h3, ?_, vector_ext_fin fun c => ?_⟩
      · simp only [h4]
        simp [tickTimer]
      · rw [hdue, h4, h5]
        simp [timerExpires, tickTimer]
    · simp only [htimer, tickTimer_isSome]
      exact hc
  unfold tickPort
  split
  next hst =>
    refine ⟨⟨rfl, rfl, fun h => ?_⟩, id, hticked.absence⟩
    have ht := hticked.stands h
    refine ⟨⟨ht.ranges.1, ?_⟩, ?_, ht.staging, ht.timers, ht.due, ht.shut⟩
    · simp only [advancePort]
      omega
    · exact .inl (h.held.resolve_right fun e => e.2.2 hst)
  next => exact hticked

theorem stationSample_steady : Steady busy s (stationSample s) := by
  refine Steady.of (take := fun t ht => ?_) (ports := fun p => ?_)
  · obtain ⟨u, hu, rfl⟩ := Option.map_eq_some_iff.1 (Option.mem_def.1 ht)
    refine ⟨u, hu, ?_⟩
    unfold tickTake
    split
    · exact ⟨rfl, rfl, rfl, rfl, fun _ => min_le_left ..⟩
    · exact ⟨rfl, rfl, rfl, rfl, id⟩
  · simp only [stationSample, updateAll_getElem_fin]
    exact tickPort_stays _

end

end Sys2Proof.Machine
end

section
/-! The parse of an input line and the build of an output line keep the invariants of O56 and O59. -/

namespace Sys2Proof.Machine

section
variable {busy : Option LaneIx} {s : State} {n : LaneIx}

/-! ### Packets of a line (R34 to R44, R140 to R142) -/

/-- A change of a lane's counters, pass list in progress and link output. -/
theorem LaneStays.of_frame {held : Bool} {a b : Lane} (h : b = { a with
    passProgress := b.passProgress, counters := b.counters, linkOut := b.linkOut }) : LaneStays held a b := by
  rw [h]
  exact ⟨rfl, Iff.rfl, fun hf => ⟨⟨hf.stands.count, hf.stands.closed, hf.stands.line, hf.stands.queues, hf.stands.still,
    hf.stands.silent, hf.stands.locked⟩, hf.link⟩⟩

/-- Of a LOCKED lane the seen marks, the rotation pointer, the reply turn and the pass list awaiting build are free. -/
theorem LaneStays.of_locked {held : Bool} {a b : Lane} (hlock : a.inputState = .locked) (h : b = { a with
      lineCount := b.lineCount, rotation := b.rotation, replyTurn := b.replyTurn, queues := b.queues
      seen := b.seen, passProgress := b.passProgress, awaiting := b.awaiting, counters := b.counters, linkOut := b.linkOut })
    (hcount : a.stands → b.lineCount ≤ 1120) (hline : a.stands → ∀ x ∈ b.awaiting, x.line < 1120)
    (hqueues : ∀ g : GroupIx, ¬ (embeds a.plan.modes[g] = true ∧ a.running[g] = true) →
      a.queues[g] = [] → b.queues[g] = []) :
    LaneStays held a b := by
  have hstate : b.inputState = .locked := (congrArg Lane.inputState h).trans hlock
  refine ⟨(congrArg Lane.plan h).trans rfl, ⟨fun _ => hlock, fun _ => hstate⟩, fun hf => ⟨⟨hcount hf.stands, .inl ?_,
    hline hf.stands, fun g => ?_, fun e => absurd hstate e, fun e => ?_, fun _ => ?_⟩, ?_⟩⟩
  · rw [h]
    exact (hf.stands.locked hlock).2
  · by_cases hg : embeds a.plan.modes[g] = true ∧ a.running[g] = true
    · left
      rw [h]
      exact hg
    · exact .inr (hqueues g hg ((hf.stands.queues g).resolve_left hg))
  · rw [hstate] at e
    cases e
  · rw [h]
    exact hf.stands.locked hlock
  · rw [h]
    exact hf.link

theorem enterPassList_steady (group : Option GroupIx) (p : List Word) :
    Steady (some n) s (enterPassList n group p s) :=
  Steady.modifyLane (.of_frame rfl) fun h => absurd rfl h

theorem updateGroup_steady {g : GroupIx} {f : Fin 4 → Source → Source} (h : ∀ t x, (f t x).present = x.present) :
    Steady busy s (updateGroup n g f s) := by
  refine Steady.updateSources fun i x => ?_
  split
  · rw [h]
    exact id
  · exact id

theorem markSeen_steady (hlock : s.locks n) (g : GroupIx) : Steady busy s (markSeen n g s) :=
  Steady.modifyLane (.of_locked hlock rfl Lane.stands.count Lane.stands.line fun _ _ h => h) fun _ => id

theorem dropDamaged_steady (p : List Word) : Steady busy s (dropDamaged n p s) := by
  have hcount : Steady busy s (s.modifyLane n fun l =>
      { l with counters := { l.counters with damaged := raise l.counters.damaged 1 } }) :=
    Steady.modifyLane (.of_frame rfl) fun _ => id
  unfold dropDamaged
  split
  · exact hcount.trans (updateGroup_steady fun _ _ => rfl)
  · exact hcount

theorem propagate_steady (hrole : s.ref.role = .follower) (c : Fin 60000) : Steady busy s (propagate n c s) := by
  refine Steady.of (marks := ⟨fun m hm => ?_, fun m hm => .inl hm⟩)
  simp only [propagate, State.modifyRef_ref, updateAll_getElem_fin] at hm ⊢
  split at hm
  next hset => exact .inr ⟨hrole, hset.1, hset.2.2⟩
  next => exact .inl ⟨hm, fun hr ho => ⟨hr, ho⟩⟩

theorem takeMark_steady (count : Word) : Steady busy s (takeMark n count s) := by
  unfold takeMark
  split
  · split
    next hfollows =>
      unfold followMark
      split
      · refine Steady.trans ((modifyRef_steady _ _ rfl rfl rfl rfl).trans (rcEvent_steady ..)) (propagate_steady ?_ _)
        exact hfollows.1
      · exact (modifyRef_steady _ _ rfl rfl rfl rfl).trans (rcEvent_steady ..)
    next => exact modifyRef_steady _ _ rfl rfl rfl rfl
  · exact modifyRef_steady _ _ rfl rfl rfl rfl

/-- One packet of a line of a LOCKED lane. -/
theorem stripPacket_steady (hlock : s.locks n) (p : List Word) : Steady (some n) s (stripPacket n s p) := by
  unfold stripPacket
  split
  · split
    · have hsources {g : GroupIx} {f : Fin 4 → List Sample} : Steady (some n) s
          (updateGroup n g (fun t x => appendSamples x (f t)) s) :=
        updateGroup_steady fun _ _ => appendSamples_present ..
      exact (hsources.trans (markSeen_steady ((hsources.locks n).2 hlock) _)).trans (enterPassList_steady ..)
    · unfold stripMark
      split
      · exact takeMark_steady _
      · exact enterPassList_steady ..
    · unfold stripRequest
      split
      · exact handOver_steady ..
      split
      · exact (handOver_steady ..).trans (enterPassList_steady ..)
      · exact enterPassList_steady ..
    · exact enterPassList_steady ..
    · exact enterPassList_steady ..
  · exact dropDamaged_steady p

theorem stripPackets_steady (hlock : s.locks n) (ps : List (List Word)) :
    Steady (some n) s (ps.foldl (stripPacket n) s) := by
  induction ps generalizing s with
  | nil => exact Steady.refl ..
  | cons p ps ih =>
    have hp := stripPacket_steady hlock p
    exact hp.trans (ih ((hp.locks n).2 hlock))

/-! ### A line parsed and a line built (R31, R108 to R115) -/

/-- The parse of a line of a LOCKED lane: the pass list in progress is empty again at its end (R31). -/
theorem stripLine_steady (hlock : s.locks n) {j : Nat} (hj : j < 1120) (blanking : List Word) :
    Steady none s (stripLine n j blanking s) := by
  have hbegin : Steady (some n) s (beginPassList n s) :=
    Steady.modifyLane (.of_frame rfl) fun h => absurd rfl h
  have hparsed := hbegin.trans (stripPackets_steady ((hbegin.locks n).2 hlock) (scanLine blanking).1)
  have hsteady : Steady (some n) s (stripLine n j blanking s) := by
    refine hparsed.trans (Steady.modifyLane (.of_locked ((hparsed.locks n).2 hlock) rfl Lane.stands.count (fun _ x hx => ?_)
      fun _ _ h => h) fun h => absurd rfl h)
    obtain rfl := Option.mem_some.1 hx
    exact hj
  refine { hsteady with pass := fun m _ hm => ?_ }
  by_cases h : m = n
  · subst h
    simp only [stripLine, finishLine, State.modifyLane_lanes, modifyAt_getElem_self]
  · exact hsteady.pass m (by simpa using Ne.symm h) hm

theorem lineReads_steady (hlock : s.locks n) (count : Nat) : Steady busy s (lineReads n count s) := by
  refine Steady.updateDests.trans (Steady.modifyLane (.of_locked hlock rfl Lane.stands.count Lane.stands.line
    fun g hg hq => ?_) fun _ => id)
  have hreads : groupReads s.lanes[n] g = false := by
    rw [groupReads, Bool.and_eq_false_iff]
    by_contra h
    simp only [not_or, Bool.not_eq_false] at h
    exact hg ⟨h.2, h.1⟩
  rw [updateAll_getElem_fin]
  simp only [hreads, Bool.false_eq_true, if_false]
  exact (congrArg (gainInstants · []) hq).trans rfl

/-- The carry queues after a build hold what is left of them before. -/
theorem placedGroups_drop (n : LaneIx) (a : AwaitingBuild) (u : State) (g : GroupIx) :
    ∃ k, (placedGroups n a u).1[g] = ((u.lanes[n]).queues[g]).drop k := by
  obtain ⟨words, hmark⟩ := placeMark_holds_some (budgetInForce u.lanes[n]) u.ref n a.line
  exact ⟨_, (placeGroups_holds (roundOrder_nodup _) _ _ _ hmark _ fun _ _ => rfl).2 g⟩

theorem clearPlacedMark_stays (n : LaneIx) (j : Nat) {s t : State} (h : t.ref = clearPlacedMark n j s.ref) :
    MarksStay s t := by
  by_cases hj : j = 0 ∧ s.ref.role = .follower
  · have ht : t.ref = { s.ref with pendingMark := modifyAt s.ref.pendingMark n fun _ => none } := h.trans (if_pos hj)
    refine ⟨fun m hm => .inl ?_, fun m hm => .inl ?_⟩
    · simp only [ht, modifyAt_getElem] at hm ⊢
      split at hm
      · cases hm
      · exact ⟨hm, fun hr ho => ⟨hr, ho⟩⟩
    · rwa [ht] at hm
  · exact .of_ref (h.trans (if_neg hj))

theorem placeLine_steady (hlock : s.locks n) (a : AwaitingBuild) : Steady busy s (placeLine n a s) := by
  have hlane : LaneStays s.resetHeld s.lanes[n] ((placeLine n a s).lanes[n]) := by
    rw [placeLine_lane]
    refine .of_locked hlock rfl Lane.stands.count (fun _ x hx => by cases hx) fun g _ hq => ?_
    obtain ⟨k, hk⟩ := placedGroups_drop n a s g
    refine hk.trans ?_
    rw [hq, List.drop_nil]
  refine Steady.of (lanes := fun m => ?_) (pass := fun m _ hm => ?_) (marks := clearPlacedMark_stays n a.line rfl)
  · by_cases h : m = n
    · subst h
      exact hlane
    · rw [placeLine_lane_ne _ _ _ h]
      exact LaneStays.refl ..
  · by_cases h : m = n
    · subst h
      rw [placeLine_lane]
      exact hm
    · rwa [placeLine_lane_ne _ _ _ h]

theorem laneSamples_steady {count : Nat} (hcount : count ≤ 2) : Steady busy s (laneSamples n count s) := by
  refine Steady.updatePorts fun p => ?_
  split
  next hclock => exact clockSamples_stays hcount (.inr (by rw [hclock]; exact fun e => by cases e))
  next => exact PortStays.refl _

theorem outputLineBuild_steady (n : LaneIx) (s : State) : Steady busy s (outputLineBuild n s) := by
  unfold outputLineBuild
  split
  next a hlock _ =>
    have hreads := lineReads_steady (busy := busy) (n := n) hlock (lineCountOf s n a.line)
    exact (hreads.trans (placeLine_steady ((hreads.locks n).2 hlock) a)).trans (laneSamples_steady (lineCountOf_le ..))
  next => exact Steady.refl ..

end

end Sys2Proof.Machine
end

section
/-! The events of a lane, its lock and its loss keep the invariants of O56 and O59. -/

namespace Sys2Proof.Machine

/-! ### A lane that is not LOCKED (R1 to R3, R9) -/

/-- A quiet lane stands when its input record does. -/
theorem Lane.stands_of_quiet {l : Lane} (hquiet : l.quiet = true) (hstate : l.inputState ≠ .locked)
    (hcount : l.lineCount ≤ 1120) (hclosed : l.frameOpen = true ∨ l.lineCount = 0)
    (hsilent : l.inputState = .noSignal → l.format = none ∧ l.frameOpen = false) : l.stands := by
  refine ⟨hcount, hclosed, fun x hx => ?_, fun g => .inr ?_, fun _ => hquiet, hsilent, fun e => absurd e hstate⟩
  · simp only [Lane.quiet, decide_eq_true_eq] at hquiet
    obtain ⟨-, -, -, -, hawaiting, -⟩ := hquiet
    rw [hawaiting] at hx
    cases hx
  · simp [quiet_queues hquiet]

/-- Of a lane that is not LOCKED the input record and the pins alone change. -/
theorem LaneStays.of_unlocked {held : Bool} {a : Lane} {f : Lane → Lane} (hf : changesInputOnly f)
    (ha : a.inputState ≠ .locked) (hb : (f a).inputState ≠ .locked)
    (hcount : a.stands → (f a).lineCount ≤ 1120 ∧ ((f a).frameOpen = true ∨ (f a).lineCount = 0))
    (hsilent : a.stands → (f a).inputState = .noSignal → (f a).format = none ∧ (f a).frameOpen = false)
    (hlink : a.fine held → held = false → ((f a).linkSignal = true ↔ (f a).inputState ≠ .noSignal)) :
    LaneStays held a (f a) := by
  refine ⟨by rw [hf], ⟨fun e => absurd e hb, fun e => absurd e ha⟩, fun h => ⟨?_, hlink h⟩⟩
  have hquiet : (f a).quiet = true := by
    rw [hf]
    exact h.stands.still ha
  exact Lane.stands_of_quiet hquiet hb (hcount h.stands).1 (hcount h.stands).2 (hsilent h.stands)

/-- The pass list in progress of a lane whose input record and pins alone change. -/
theorem changesInputOnly.pass {f : Lane → Lane} (hf : changesInputOnly f) (l : Lane) :
    (f l).passProgress = l.passProgress := by rw [hf]

section
variable {busy : Option LaneIx} {s : State} {n : LaneIx}

theorem Steady.modifyInput {f : Lane → Lane} (hf : changesInputOnly f) (h : LaneStays s.resetHeld s.lanes[n] (f s.lanes[n])) :
    Steady busy s (s.modifyLane n f) :=
  Steady.modifyLane h fun _ hp => (hf.pass _).trans hp

/-- While power-on reset is held the link pins say nothing of the input state (log entry 3). -/
theorem heldPins_steady (hheld : s.resetHeld = true) (on : Bool) (out : Lane → List Word) :
    Steady busy s (s.modifyLane n fun l => { l with linkSignal := on, linkOut := out l }) := by
  refine Steady.modifyLane ⟨rfl, Iff.rfl, fun h => ⟨⟨h.stands.count, h.stands.closed, h.stands.line, h.stands.queues,
    h.stands.still, h.stands.silent, h.stands.locked⟩, fun e => ?_⟩⟩ fun _ => id
  rw [hheld] at e
  cases e

theorem linkSignalAppears_steady : Steady busy s ((setSignal n true s).modifyLane n acquireLane) := by
  rw [setSignal, State.modifyLane_modifyLane]
  refine Steady.modifyLane ?_ fun _ hp => ?_
  · by_cases h : (s.lanes[n]).inputState = .noSignal
    · rw [acquireLane_noSignal (l := { s.lanes[n] with linkSignal := true }) h]
      exact LaneStays.of_unlocked (f := fun l => { l with
          linkSignal := true, inputState := .acquiring, format := none, frameOpen := false, lineCount := 0 })
        (fun _ => rfl) (by rw [h]; decide) (fun e => by cases e) (fun _ => ⟨Nat.zero_le _, .inr rfl⟩)
        (fun _ _ => ⟨rfl, rfl⟩) fun _ _ => by simp
    · rw [acquireLane_of_ne (l := { s.lanes[n] with linkSignal := true }) h]
      exact ⟨rfl, Iff.rfl, fun hf => ⟨⟨hf.stands.count, hf.stands.closed, hf.stands.line, hf.stands.queues,
        hf.stands.still, hf.stands.silent, hf.stands.locked⟩, fun _ => by simpa using h⟩⟩
  · unfold acquireLane
    split <;> exact hp

theorem bypassLine_steady (blanking : List Word) : Steady busy s (bypassLine n blanking s) :=
  Steady.modifyLane (.of_frame rfl) fun _ => id

theorem openFrame_steady (h : (s.lanes[n]).inputState ≠ .noSignal) : Steady busy s (openFrame n s) :=
  Steady.modifyLane ⟨rfl, Iff.rfl, fun hf => ⟨⟨Nat.zero_le _, .inl rfl, hf.stands.line, hf.stands.queues, hf.stands.still,
    fun e => absurd e h, fun e => ⟨(hf.stands.locked e).1, rfl⟩⟩, hf.link⟩⟩ fun _ => id

theorem setCandidate_steady (h : (s.lanes[n]).inputState = .acquiring) (format : Option Format) :
    Steady busy s (setCandidate n format s) := by
  refine Steady.modifyInput (fun _ => rfl) (.of_unlocked (f := fun l => { l with format := format }) (fun _ => rfl)
    (by rw [h]; decide) (by rw [h]; decide) (fun hs => ⟨hs.count, hs.closed⟩) (fun _ e => ?_) Lane.fine.link)
  rw [h] at e
  cases e

theorem signalLost_unlocked_steady (h : (s.lanes[n]).inputState ≠ .locked) :
    Steady busy s (signalLost n (setSignal n false s)) := by
  cases hst : (s.lanes[n]).inputState with
  | locked => exact absurd hst h
  | noSignal =>
    rw [signalLost_noSignal (by rw [setSignal_lane]; exact hst)]
    exact Steady.modifyInput (fun _ => rfl) (.of_unlocked (f := fun l => { l with linkSignal := false }) (fun _ => rfl) h h
      (fun hs => ⟨hs.count, hs.closed⟩) Lane.stands.silent fun _ _ => by simp [-Fin.getElem_fin, hst])
  | acquiring =>
    rw [signalLost_acquiring (by rw [setSignal_lane]; exact hst), setSignal, State.modifyLane_modifyLane]
    exact Steady.modifyInput (fun _ => rfl) (.of_unlocked (f := fun l => silenceLane { l with linkSignal := false })
      (fun _ => rfl) h (fun e => by cases e) (fun _ => ⟨Nat.zero_le _, .inr rfl⟩) (fun _ _ => ⟨rfl, rfl⟩)
      fun _ _ => by simp [silenceLane])

/-- A carriage line of a lane that is not LOCKED, or one of a LOCKED lane's 1120 (R2, R9, R31). -/
theorem countedLine_steady (hsig : (s.lanes[n]).inputState ≠ .noSignal) (hf : (s.lanes[n]).frameOpen = true)
    (hl : (s.lanes[n]).lineCount < 1120) (blanking : List Word) : Steady none s (countedLine n blanking s) := by
  have hcount : Steady none s (s.modifyLane n fun l => { l with lineCount := l.lineCount + 1 }) :=
    Steady.modifyLane ⟨rfl, Iff.rfl, fun h => ⟨⟨hl, .inl hf, h.stands.line, h.stands.queues, h.stands.still,
      fun e => absurd e hsig, h.stands.locked⟩, h.link⟩⟩ fun _ => id
  unfold countedLine
  dsimp only
  split
  next hlock => exact hcount.trans (stripLine_steady hlock hl blanking)
  next => exact hcount.trans (bypassLine_steady blanking)

theorem longFrame_unlocked_steady (hsig : (s.lanes[n]).inputState ≠ .noSignal) (hlock : (s.lanes[n]).inputState ≠ .locked) :
    Steady busy s (longFrame n s) := by
  rw [longFrame_unlocked hlock]
  exact Steady.modifyInput (fun _ => rfl) (.of_unlocked
    (f := fun l => { l with format := none, frameOpen := false, lineCount := 0 }) (fun _ => rfl) hlock hlock
    (fun _ => ⟨Nat.zero_le _, .inr rfl⟩) (fun _ e => absurd e hsig) Lane.fine.link)

/-! ### Lock, input frame end and input frame start (R3, R6, R47, R130, R139) -/

theorem inputFrameStart_steady : Steady busy s (inputFrameStart n s) := by
  unfold inputFrameStart
  split
  · exact (modifyRef_steady _ _ rfl rfl rfl rfl).trans (rcEvent_steady ..)
  · exact Steady.refl ..

theorem evaluateGroups_steady (hlock : s.locks n) : Steady busy s (evaluateGroups n s) := by
  have hlocks (m : LaneIx) : (evaluateGroups n s).locks m ↔ s.locks m := by
    unfold State.locks
    rw [evaluateGroups_lanes, modifyAt_proj Lane.inputState fun _ => by rfl]
  refine Steady.ofPresence (presence := fun h => ⟨fun m g k hp => (hlocks m).2 ?_, fun p c k => ?_⟩) (lanes := fun m => ?_)
    (pass := fun m _ hm => ?_)
  · rw [evaluateGroups_sources, trackPlace_laneTrack] at hp
    by_cases hm : m = n
    · exact hm ▸ hlock
    · rw [if_neg (by simpa using hm)] at hp
      exact h.1 m g k hp
  · rw [evaluateGroups_sources, trackPlace_portTrack, if_neg (by simp)]
    exact h.2 p c k
  · rw [evaluateGroups_lanes, modifyAt_getElem]
    split
    next hm => subst hm; exact .of_locked hlock rfl Lane.stands.count Lane.stands.line fun _ _ h => h
    next => exact LaneStays.refl ..
  · rw [evaluateGroups_lanes, modifyAt_proj Lane.passProgress fun _ => by rfl]
    exact hm

/-- An ACQUIRING lane with an open frame and a format becomes LOCKED (R3, R130). -/
theorem lockLane_keeps (hstate : (s.lanes[n]).inputState = .acquiring) (hopen : (s.lanes[n]).frameOpen = true)
    (hformat : (s.lanes[n]).format.isSome = true) : Keeps busy s (lockLane n s) := by
  have hlane : (lockLane n s).lanes = modifyAt s.lanes n fun l => { l with inputState := .locked, firstFrame := true } := rfl
  have hports (p : PortIx) : (lockLane n s).ports[p] = takeUpClock n s.ports[p] := updateAll_getElem_fin ..
  have hlocks (m : LaneIx) : (lockLane n s).locks m ↔ m = n ∨ s.locks m := by
    unfold State.locks
    rw [hlane, modifyAt_getElem]
    split
    next hm => subst hm; simp
    next hm => simp [Ne.symm hm]
  have hkept (m : LaneIx) (h : s.locks m) : (lockLane n s).locks m := (hlocks m).2 (.inr h)
  refine ⟨entriesSound_of rfl (fun m => ?_) (TakeStays.refl _) (fun _ _ h => h),
    takeSound_of (TakeStays.refl _) hkept, fun h m => ?_, fun m _ hm => ?_,
    presenceSound_of (fun _ h => h) hkept (fun p => ?_) (fun p => ?_), fun h p => ?_,
    marksSound_of (MarksStay.of_ref rfl) hkept⟩
  · rw [hlane, modifyAt_proj Lane.plan fun _ => by rfl]
  · change (((lockLane n s).lanes[m]).fine s.resetHeld)
    rw [hlane, modifyAt_getElem]
    split
    next hm =>
      subst hm
      have hq := quiet_queues ((h n).stands.still (by rw [hstate]; decide))
      refine ⟨⟨(h n).stands.count, (h n).stands.closed, (h n).stands.line, fun g => .inr ?_, fun e => absurd rfl e,
        fun e => (by cases e), fun _ => ⟨hformat, hopen⟩⟩, fun e => ?_⟩
      · exact (congrArg (fun q : Vector (List Instant) 4 => q[g]) hq).trans (by simp)
      · have := (h n).link e
        rw [hstate] at this
        simpa using this
    next => exact h m
  · rw [hlane, modifyAt_proj Lane.passProgress fun _ => by rfl]
    exact hm
  · rw [hports, takeUpClock]
    split <;> exact id
  · rw [hports, takeUpClock]
    split <;> exact fun _ => id
  · obtain ⟨hs, hc⟩ := h p
    rw [Port.sound_iff] at hs ⊢
    rw [hports, takeUpClock]
    split
    next hplan =>
      refine ⟨⟨hs.ranges, hs.held.imp_right fun e => ⟨e.1, e.2.1, fun e => by cases e⟩, hs.staging, hs.timers, hs.due,
        hs.shut⟩, ?_⟩
      simp only [hplan, clockUnder]
      exact (if_pos ((hlocks n).2 (.inl rfl))).symm
    next hplan =>
      refine ⟨hs, hc.trans ?_⟩
      cases hsource : (s.ports[p]).plan.clock with
      | station => rfl
      | lane m =>
        have hm : m ≠ n := fun e => hplan (by rw [hsource, e])
        have hiff : (((lockLane n s).lanes[m]).inputState = .locked) ↔ (s.lanes[m]).inputState = .locked :=
          (hlocks m).trans (or_iff_right hm)
        simp only [clockUnder, hiff]

theorem openFrame_lane (n : LaneIx) (s : State) : (openFrame n s).lanes[n] = openedLane s.lanes[n] :=
  modifyAt_getElem_self ..

theorem closeAcquiring_keeps (hstate : (s.lanes[n]).inputState = .acquiring) (format : Option Format) :
    Keeps busy s (closeAcquiring n format s) := by
  have hopen : Steady busy s (openFrame n s) := openFrame_steady (by rw [hstate]; decide)
  have hopened : ((openFrame n s).lanes[n]).inputState = .acquiring := by
    rw [openFrame_lane]
    exact hstate
  unfold closeAcquiring
  split
  next hformat =>
    refine (hopen.toKeeps.trans (lockLane_keeps hopened ?_ ?_)).trans inputFrameStart_steady.toKeeps
    · rw [openFrame_lane]
      rfl
    · rw [openFrame_lane]
      exact hformat.2 ▸ hformat.1
  next => exact (hopen.trans (setCandidate_steady hopened format)).toKeeps

end

/-! ### Lane loss (R14, R15) -/

theorem setSignal_self (n : LaneIx) (s : State) : setSignal n (s.lanes[n]).linkSignal s = s :=
  State.putLane_self s n

section
variable {n : LaneIx} {s : State}

theorem lostState_locks (n : LaneIx) {state : InputState} (hstate : state ≠ .locked) (format : Option Format) (s : State)
    (m : LaneIx) : (lostState n state format s).locks m ↔ m ≠ n ∧ s.locks m := by
  unfold State.locks
  by_cases h : m = n
  · subst h
    rw [lostState_lane]
    exact ⟨fun e => absurd e hstate, fun e => absurd rfl e.1⟩
  · rw [lostState_lane_ne n state format s h]
    exact (and_iff_right h).symm

theorem fallBack_receives (n : LaneIx) (x : Port) :
    (fallBack n x).receiveEnable = x.receiveEnable ∧ (fallBack n x).absence = x.absence
      ∧ (fallBack n x).plan = x.plan := by
  unfold fallBack
  split
  · rw [clockSamples_frame]
    exact ⟨rfl, rfl, rfl⟩
  · exact ⟨rfl, rfl, rfl⟩

/-- A held sample that falls alone leaves none held (log entry 32). -/
theorem clockSamples_zero_held {x : Port} (h : x.stands) : (clockSamples 0 x).heldSamples = 0 := by
  obtain ⟨-, hcases⟩ := advanceBy_cases (x.heldSamples + 0) { x with heldSamples := 0 } h.ranges.2
  change (clockSamples 0 x).heldSamples = 0 ∧ _ ∨ _ ∧ _ ∧ (clockSamples 0 x).heldSamples < x.heldSamples + 0 ∧ _ at hcases
  rcases hcases with ⟨hnone, -⟩ | ⟨-, -, hlt, -⟩
  · exact hnone
  · rcases h.held with hh | ⟨hh, -, -⟩ <;> omega

theorem fallBack_stands (n : LaneIx) {x : Port} (h : x.stands) : (fallBack n x).stands := by
  unfold fallBack
  split
  next =>
    have hs := (clockSamples_stays (count := 0) (by decide) (.inl rfl)).stands h
    exact ⟨hs.ranges, .inl (clockSamples_zero_held h), hs.staging, hs.timers, hs.due, hs.shut⟩
  next => exact h

/-- Every port is on the clock its plan gives once a LOCKED lane is lost (R130). -/
theorem fallBack_clock {n : LaneIx} {s t : State} (hlock : s.locks n) (hlocks : ∀ m, t.locks m ↔ m ≠ n ∧ s.locks m)
    {x : Port} (h : x.clock = clockUnder s x.plan.clock) : (fallBack n x).clock = clockUnder t x.plan.clock := by
  have hn : ¬ t.locks n := fun e => ((hlocks n).1 e).1 rfl
  cases hsource : x.plan.clock with
  | station =>
    have hx : x.clock = .station := by rw [h, hsource]; rfl
    rw [fallBack, if_neg (by rw [hx]; exact fun e => by cases e), hx]
    rfl
  | lane m =>
    rw [hsource] at h
    by_cases hm : m = n
    · subst hm
      have hx : x.clock = .lane m := h.trans (if_pos hlock)
      rw [fallBack, if_pos hx]
      exact (if_neg hn).symm
    · have hx : x.clock ≠ .lane n := by
        rw [h]
        simp only [clockUnder]
        split
        · exact fun e => hm (by cases e; rfl)
        · exact fun e => by cases e
      have hiff : ((t.lanes[m]).inputState = .locked) ↔ (s.lanes[m]).inputState = .locked :=
        (hlocks m).trans (and_iff_right hm)
      rw [fallBack, if_neg hx, h]
      simp only [clockUnder, hiff]

/-- The invariants other than the lanes' and the take's are kept. -/
structure KeepsBlocks (s t : State) : Prop where
  entries : s.entriesSound → t.entriesSound
  presence : s.presenceSound → t.presenceSound
  ports : s.portsSound → t.portsSound
  marks : s.marksSound → t.marksSound

theorem KeepsBlocks.trans {s t u : State} (h : KeepsBlocks s t) (k : KeepsBlocks t u) : KeepsBlocks s u :=
  ⟨fun e => k.entries (h.entries e), fun e => k.presence (h.presence e), fun e => k.ports (h.ports e),
    fun e => k.marks (h.marks e)⟩

/-- A lane's input record and pins, counters and the replies are not among the blocks. -/
theorem KeepsBlocks.of_lanes {s t : State} (h : t = { s with lanes := t.lanes, replies := t.replies })
    (hplan : ∀ m : LaneIx, (t.lanes[m]).plan = (s.lanes[m]).plan) (hlocks : ∀ m, t.locks m ↔ s.locks m) :
    KeepsBlocks s t := by
  have hentries : t.entries = s.entries := by rw [h]
  have htake : t.take = s.take := by rw [h]
  have hundo : t.undo = s.undo := by rw [h]
  have hsources : t.sources = s.sources := by rw [h]
  have hports : t.ports = s.ports := by rw [h]
  have href : t.ref = s.ref := by rw [h]
  refine ⟨entriesSound_of hentries hplan (htake ▸ TakeStays.refl _) fun i u hu => by rwa [hundo] at hu,
    presenceSound_of (fun i => by rw [hsources]; exact id) (fun m => (hlocks m).2) (fun p => by rw [hports]; exact id)
      (fun p c => by rw [hports]; exact id),
    portsSound_of hlocks (fun p => by rw [hports]; exact id) (fun p => by rw [hports]) (fun p => by rw [hports]),
    marksSound_of (.of_ref href) fun m => (hlocks m).2⟩

/-- Up to the application of a take pending on it, a lost lane leaves every invariant but the take's and its own. -/
theorem lostState_blocks (hlock : s.locks n) {state : InputState} (hstate : state ≠ .locked) (format : Option Format) :
    KeepsBlocks s (lostState n state format s) := by
  have hlocks := lostState_locks n hstate format s
  refine ⟨entriesSound_of rfl (fun m => ?_) (TakeStays.refl _) fun _ _ h => h,
    fun h => ⟨fun m g k hp => ?_, fun p c k hp => ?_⟩, fun h p => ?_, fun h m => ?_⟩
  · rw [lostState_lanes, modifyAt_proj Lane.plan fun _ => by rfl]
  · rw [lostState_sources] at hp
    split at hp
    · simp at hp
    next hne =>
      refine (hlocks m).2 ⟨fun e => hne ?_, h.1 m g k hp⟩
      subst e
      exact (trackPlace_eq_lane_iff _ _).1 (trackPlace_laneTrack ..)
  · rw [lostState_sources, if_neg] at hp
    · rw [lostState_ports, (fallBack_receives n _).1, (fallBack_receives n _).2.1]
      exact h.2 p c k hp
    · rw [← trackPlace_eq_lane_iff, trackPlace_portTrack]
      exact fun e => by cases e
  · obtain ⟨hs, hc⟩ := h p
    rw [Port.sound_iff] at hs ⊢
    rw [lostState_ports, (fallBack_receives n _).2.2]
    exact ⟨fallBack_stands n hs, fallBack_clock hlock hlocks hc⟩
  · have hpending : (lostState n state format s).ref.pendingMark[m] = if n = m then none else s.ref.pendingMark[m] :=
      modifyAt_getElem ..
    have hrealign : (lostState n state format s).ref.realign[m] = if n = m then false else s.ref.realign[m] :=
      modifyAt_getElem ..
    obtain ⟨hp, hr⟩ := h m
    rw [hpending, hrealign]
    by_cases hm : n = m
    · simp [hm]
    · rw [if_neg hm, if_neg hm]
      refine ⟨fun e => ?_, fun e => (hlocks m).2 ⟨Ne.symm hm, hr e⟩⟩
      obtain ⟨hrole, hout, hl⟩ := hp e
      exact ⟨hrole, hout, (hlocks m).2 ⟨Ne.symm hm, hl⟩⟩

theorem applyAtLoss_steady (busy : Option LaneIx) (n : LaneIx) (s : State) : Steady busy s (applyAtLoss n s) := by
  unfold applyAtLoss
  split
  next t ht => exact applyTake_steady _ _ fun h => h.2.2.1 t (pendingOn_some ht).1
  next => exact Steady.refl ..

theorem applyAtLoss_lane_ne {m : LaneIx} (h : m ≠ n) : (applyAtLoss n s).lanes[m] = s.lanes[m] := by
  unfold applyAtLoss
  split
  next t ht => rw [applyTake_lanes_of_lane (pendingOn_some ht).2.2, modifyAt_getElem_ne _ (Ne.symm h)]
  next => rfl

/-- After the loss no take waits on the lost lane (R157). -/
theorem applyAtLoss_takeSound {u : State} (hlocks : ∀ m, m ≠ n → s.locks m → u.locks m) (htake : u.take = s.take)
    (h : s.takeSound) : (applyAtLoss n u).takeSound := by
  unfold applyAtLoss
  split
  next t _ =>
    intro k hk
    rw [applyTake_take] at hk
    cases hk
  next hnone =>
    intro k hk
    rw [htake] at hk
    obtain ⟨hexpiry, hwait⟩ := h k hk
    refine ⟨hexpiry, fun m hp hm => hlocks m (fun e => ?_) (hwait m hp hm)⟩
    subst e
    rw [← hm] at hnone
    rw [pendingOn_eq_some (htake.trans hk) hp] at hnone
    cases hnone

theorem applyAtLoss_record {state : InputState} (hstate : state ≠ .locked) (format : Option Format) :
    ∃ plan, (applyAtLoss n (lostState n state format s)).lanes[n] =
      { lostLaneRecord state format s.lanes[n] with plan := plan } := by
  unfold applyAtLoss
  split
  next t ht => exact lossRecord_taken (pendingOn_some ht).2.2 hstate format s
  next => exact lossRecord_lostState ..

/-- The state at a lane's loss with the signal of its link as given, before its replies are purged: a take PENDING on the lane
has been applied (R14, R15, R157). -/
def lossTaken (n : LaneIx) (state : InputState) (format : Option Format) (on : Bool) (s : State) : State :=
  applyAtLoss n (lostState n state format (setSignal n on s))

theorem setSignal_locks (n : LaneIx) (on : Bool) (s : State) (m : LaneIx) : (setSignal n on s).locks m ↔ s.locks m := by
  unfold State.locks setSignal
  rw [State.modifyLane_lanes, modifyAt_proj Lane.inputState fun _ => by rfl]

theorem closeLoss_lane_ne {m : LaneIx} (h : m ≠ n) (g : Lane → Lane) (v : State) :
    (closeLoss n g v).lanes[m] = v.lanes[m] := by
  rw [closeLoss_lanes, modifyAt_getElem_ne _ (Ne.symm h)]

section
variable {state : InputState} (hstate : state ≠ .locked) (format : Option Format) (on : Bool)

theorem lossTaken_lane_ne {m : LaneIx} (h : m ≠ n) : (lossTaken n state format on s).lanes[m] = s.lanes[m] := by
  rw [lossTaken, applyAtLoss_lane_ne h, lostState_lane_ne n state format _ h, setSignal, State.modifyLane_lanes,
    modifyAt_getElem_ne _ (Ne.symm h)]

theorem lossTaken_resetHeld : (lossTaken n state format on s).resetHeld = s.resetHeld := by
  unfold lossTaken applyAtLoss
  split
  · rw [applyTake_resetHeld]
    rfl
  · rfl

include hstate

theorem lossTaken_locks (m : LaneIx) : (lossTaken n state format on s).locks m ↔ m ≠ n ∧ s.locks m :=
  calc (lossTaken n state format on s).locks m
    _ ↔ (lostState n state format (setSignal n on s)).locks m := (applyAtLoss_steady none n _).locks m
    _ ↔ m ≠ n ∧ (setSignal n on s).locks m := lostState_locks n hstate format _ m
    _ ↔ m ≠ n ∧ s.locks m := and_congr_right fun _ => setSignal_locks n on s m

theorem lossTaken_blocks (hlock : s.locks n) : KeepsBlocks s (lossTaken n state format on s) := by
  have hsignal : KeepsBlocks s (setSignal n on s) := .of_lanes rfl
    (fun m => by rw [setSignal, State.modifyLane_lanes, modifyAt_proj Lane.plan fun _ => by rfl]) (setSignal_locks n on s)
  have hlost := lostState_blocks ((setSignal_locks n on s n).2 hlock) hstate format
  have hsteady := applyAtLoss_steady none n (lostState n state format (setSignal n on s))
  exact (hsignal.trans hlost).trans ⟨hsteady.entries, hsteady.presence, hsteady.ports, hsteady.marks⟩

theorem lossTaken_takeSound (h : s.takeSound) : (lossTaken n state format on s).takeSound :=
  applyAtLoss_takeSound (fun m hm e => (lostState_locks n hstate format _ m).2 ⟨hm, (setSignal_locks n on s m).2 e⟩) rfl h

/-- The lost lane at the end of its loss: quiet, its signal as given, changed by the end of the loss. -/
theorem closeLoss_lossTaken_lane (g : Lane → Lane) :
    ∃ l : Lane, (closeLoss n g (lossTaken n state format on s)).lanes[n] = g l ∧ l.quiet = true ∧ l.inputState = state
      ∧ l.linkSignal = on ∧ l.passProgress = [] := by
  obtain ⟨plan, hrecord⟩ := applyAtLoss_record (n := n) (s := setSignal n on s) hstate format
  rw [setSignal_lane] at hrecord
  refine ⟨_, closeLoss_lane n g _, ?_⟩
  rw [lossTaken, hrecord]
  exact ⟨lostLaneRecord_quiet state format { s.lanes[n] with linkSignal := on }, rfl, rfl, rfl⟩

variable {g : Lane → Lane} (hg : changesInputOnly g) (hgstate : ∀ l, l.inputState = state → (g l).inputState ≠ .locked)
include hgstate

theorem closeLoss_lossTaken_locks (m : LaneIx) :
    (closeLoss n g (lossTaken n state format on s)).locks m ↔ (lossTaken n state format on s).locks m := by
  by_cases hm : m = n
  · subst hm
    obtain ⟨l, hl, -, hst, -⟩ := closeLoss_lossTaken_lane (n := m) (s := s) hstate format on g
    refine ⟨fun e => ?_, fun e => absurd rfl ((lossTaken_locks hstate format on m).1 e).1⟩
    unfold State.locks at e
    rw [hl] at e
    exact absurd e (hgstate l hst)
  · unfold State.locks
    rw [closeLoss_lane_ne hm]

include hg

theorem closeLoss_lossTaken_blocks (hlock : s.locks n) : KeepsBlocks s (closeLoss n g (lossTaken n state format on s)) := by
  refine (lossTaken_blocks hstate format on hlock).trans (.of_lanes (closeLoss_eq n g _) (fun m => ?_)
    (closeLoss_lossTaken_locks hstate format on hgstate))
  rw [closeLoss_lanes, modifyAt_proj Lane.plan fun l => by rw [hg]; rfl]

/-- A LOCKED lane that is lost, however it comes: every block is left sound, and the lane itself where the end of the loss `g`
leaves it so. -/
theorem loss_keeps (hlock : s.locks n)
    (hfine : ∀ l : Lane, l.quiet = true → l.inputState = state → l.linkSignal = on → (s.lanes[n]).fine s.resetHeld →
      (g l).fine s.resetHeld) :
    Keeps none s (closeLoss n g (lossTaken n state format on s)) := by
  have hblocks := closeLoss_lossTaken_blocks hstate format on hg hgstate hlock
  have hlocks := closeLoss_lossTaken_locks (n := n) (s := s) hstate format on hgstate
  obtain ⟨l, hl, hquiet, hst, hsignal, hpass⟩ := closeLoss_lossTaken_lane (n := n) (s := s) hstate format on g
  have hne {m : LaneIx} (hm : m ≠ n) : (closeLoss n g (lossTaken n state format on s)).lanes[m] = s.lanes[m] := by
    rw [closeLoss_lane_ne hm, lossTaken_lane_ne format on hm]
  have hheld : (closeLoss n g (lossTaken n state format on s)).resetHeld = s.resetHeld := lossTaken_resetHeld format on
  refine ⟨hblocks.entries, fun h => takeSound_of (s := lossTaken n state format on s) (TakeStays.refl _)
    (fun m => (hlocks m).2) (lossTaken_takeSound hstate format on h), fun h m => ?_, fun m _ hm => ?_, hblocks.presence,
    hblocks.ports, hblocks.marks⟩
  · rw [hheld]
    by_cases hm : m = n
    · subst hm
      rw [hl]
      exact hfine l hquiet hst hsignal (h m)
    · rw [hne hm]
      exact h m
  · by_cases hmn : m = n
    · subst hmn
      rw [hl, hg.pass]
      exact hpass
    · rwa [hne hmn]

end

end

/-! ### Frame starts, lines and signal of any lane -/

section
variable {s : State} {n : LaneIx}

theorem openedLane_fine {held : Bool} {l : Lane} (hquiet : l.quiet = true) (hstate : l.inputState = .acquiring)
    (hsignal : l.linkSignal = true) : (openedLane l).fine held :=
  ⟨Lane.stands_of_quiet hquiet (by simp [openedLane, hstate]) (Nat.zero_le _) (.inl rfl) (by simp [openedLane, hstate]),
    fun _ => by simp [openedLane, hstate, hsignal]⟩

theorem closedLane_fine {held : Bool} {l : Lane} (hquiet : l.quiet = true) (hstate : l.inputState = .acquiring)
    (hsignal : l.linkSignal = true) (blanking : List Word) : (closedLane blanking l).fine held :=
  ⟨Lane.stands_of_quiet hquiet (by simp [closedLane, hstate]) (Nat.zero_le _) (.inr rfl) (by simp [closedLane, hstate]),
    fun _ => by simp [closedLane, hstate, hsignal]⟩

theorem silenceLane_fine {held : Bool} {l : Lane} (hquiet : l.quiet = true) (hsignal : l.linkSignal = false) :
    (silenceLane l).fine held :=
  ⟨Lane.stands_of_quiet hquiet (by simp [silenceLane]) (Nat.zero_le _) (.inr rfl) fun _ => ⟨rfl, rfl⟩,
    fun _ => by simp [silenceLane, hsignal]⟩

theorem locked_signal (hs : s.resetHeld = false) (hlock : s.locks n) (h : (s.lanes[n]).fine s.resetHeld) :
    (s.lanes[n]).linkSignal = true :=
  (h.link hs).2 (by rw [show (s.lanes[n]).inputState = .locked from hlock]; exact fun e => by cases e)

/-- A LOCKED lane lost for ACQUIRING, its link still with signal (R2, R4). -/
theorem acquiringLoss_keeps (hs : s.resetHeld = false) (hlock : s.locks n) (format : Option Format) {g : Lane → Lane}
    (hg : changesInputOnly g) (hgstate : ∀ l, l.inputState = .acquiring → (g l).inputState ≠ .locked)
    (hfine : ∀ l : Lane, l.quiet = true → l.inputState = .acquiring → l.linkSignal = true → (g l).fine s.resetHeld) :
    Keeps none s (closeLoss n g (applyAtLoss n (lostState n .acquiring format s))) := by
  have h := loss_keeps (state := .acquiring) (fun e => by cases e) format (s.lanes[n]).linkSignal hg hgstate hlock
    fun l hq hst hsig hf => hfine l hq hst (hsig.trans (locked_signal hs hlock hf))
  rwa [lossTaken, setSignal_self] at h

theorem closeLocked_keeps (hs : s.resetHeld = false) (hlock : s.locks n) (format : Option Format) :
    Keeps none s (closeLocked n format s) := by
  unfold closeLocked
  split
  · have heval := evaluateGroups_steady (busy := none) hlock
    have hopen : Steady none (evaluateGroups n s) (openFrame n (evaluateGroups n s)) := openFrame_steady (by
      rw [show ((evaluateGroups n s).lanes[n]).inputState = .locked from (heval.locks n).2 hlock]
      exact fun e => by cases e)
    exact ((heval.trans hopen).trans inputFrameStart_steady).toKeeps
  · exact acquiringLoss_keeps hs hlock format openedLane_changesInputOnly
      (fun l h => show l.inputState ≠ .locked by rw [h]; exact fun e => by cases e) fun _ => openedLane_fine

/-- A frame start of any lane (R2 to R4, R6). -/
theorem frameStart_keeps (hs : s.resetHeld = false) (timing : Option Format) : Keeps none s (frameStart n timing s) := by
  cases hst : (s.lanes[n]).inputState with
  | noSignal =>
    simp only [frameStart, hst]
    exact Keeps.refl ..
  | acquiring =>
    rw [frameStart_acquiring hst]
    split
    · exact closeAcquiring_keeps hst _
    · exact (openFrame_steady (by rw [hst]; exact fun e => by cases e)).toKeeps
  | locked =>
    simp only [frameStart, hst]
    split
    · exact closeLocked_keeps hs hst _
    · exact (openFrame_steady (by rw [hst]; exact fun e => by cases e)).toKeeps

/-- A carriage line of any lane (R2, R9, R31). -/
theorem carriageLine_keeps (hs : s.resetHeld = false) (blanking : List Word) : Keeps none s (carriageLine n blanking s) := by
  by_cases hsig : (s.lanes[n]).inputState = .noSignal
  · rw [carriageLine_noSignal hsig]
    exact Keeps.refl ..
  by_cases hf : (s.lanes[n]).frameOpen = true
  · by_cases hl : (s.lanes[n]).lineCount < 1120
    · rw [carriageLine_counted hsig hf hl]
      exact (countedLine_steady hsig hf hl blanking).toKeeps
    · rw [carriageLine_long hsig hf (not_lt.1 hl)]
      by_cases hlock : (s.lanes[n]).inputState = .locked
      · have hlong : bypassLine n blanking (longFrame n s) =
            closeLoss n (closedLane blanking) (applyAtLoss n (lostState n .acquiring none s)) := by
          simp only [longFrame, hlock, laneLoss_eq, bypassLine, closeFrame, State.modifyLane_modifyLane]
          rfl
        rw [hlong]
        exact acquiringLoss_keeps hs hlock none (closedLane_changesInputOnly blanking)
          (fun l h => show l.inputState ≠ .locked by rw [h]; exact fun e => by cases e)
          fun _ hq hst hsig => closedLane_fine hq hst hsig blanking
      · exact ((longFrame_unlocked_steady hsig hlock).trans (bypassLine_steady blanking)).toKeeps
  · rw [carriageLine_noFrame hsig (by simpa using hf)]
    exact (bypassLine_steady blanking).toKeeps

/-- The loss of a lane's signal from whichever state it is in (R1). -/
theorem signalLost_keeps : Keeps none s (signalLost n (setSignal n false s)) := by
  by_cases hlock : (s.lanes[n]).inputState = .locked
  · rw [signalLost_locked (by rw [setSignal_lane]; exact hlock), laneLoss_eq]
    exact loss_keeps (state := .noSignal) (fun e => by cases e) none false silenceLane_changesInputOnly
      (fun _ _ e => by cases e) hlock fun l hq _ hsig _ => silenceLane_fine hq hsig
  · exact (signalLost_unlocked_steady hlock).toKeeps

end

end Sys2Proof.Machine
end

section
/-! Every command and every step keep the invariants: O56, O59. -/

namespace Sys2Proof.Machine

/-! ### Power-on reset (R17, R172, R173) -/

section
variable (straps : Straps) (s : State)

theorem releaseLane_fine (held : Bool) (l : Lane) : (releaseLane l).fine held ∧ (releaseLane l).passProgress = []
    ∧ (releaseLane l).plan = .powerOn := by
  have hoff : Lane.powerOn.fine held := ⟨((Lane.sound_iff _).1 (by decide)).1, fun _ => by decide⟩
  have hon : ({ Lane.powerOn with linkSignal := true, inputState := .acquiring } : Lane).fine held :=
    ⟨((Lane.sound_iff _).1 (by decide)).1, fun _ => by decide⟩
  unfold releaseLane
  split
  · exact ⟨hon, rfl, rfl⟩
  · exact ⟨hoff, rfl, rfl⟩

/-- The power-on values meet every invariant, whatever signals the links have (R17, R173). -/
theorem releaseReset_keeps : Keeps none s (releaseReset straps s) := by
  have hlane (n : LaneIx) : (releaseReset straps s).lanes[n] = releaseLane s.lanes[n] := updateAll_getElem_fin ..
  have hsource (i : SourceIx) : (releaseReset straps s).sources[i] = Source.powerOn := by
    simp [releaseReset, State.powerOn]
  have hport (p : PortIx) : (releaseReset straps s).ports[p] = Port.powerOn := by simp [releaseReset, State.powerOn]
  refine ⟨fun _ => ⟨fun d => ?_, fun n => ?_, fun _ h => (by cases h), fun i u hu => ?_⟩, fun _ _ h => (by cases h),
    fun _ n => ?_,
    fun n _ _ => ?_, fun _ => ⟨fun n g k => ?_, fun p c k => ?_⟩, fun _ p => ?_, fun _ n => ?_⟩
  · have hentry : (releaseReset straps s).entries[d] = RouteEntry.powerOn := by simp [releaseReset, State.powerOn]
    rw [hentry]
    decide
  · rw [hlane, (releaseLane_fine false s.lanes[n]).2.2]
    rfl
  · simp [releaseReset, State.powerOn] at hu
  · rw [hlane]
    exact (releaseLane_fine _ _).1
  · rw [hlane]
    exact (releaseLane_fine false _).2.1
  · rw [hsource]
    exact fun h => by cases h
  · rw [hsource]
    exact fun h => by cases h
  · rw [hport]
    exact ⟨by decide, rfl⟩
  · simp [releaseReset, State.powerOn, Reference.powerOn]

theorem assertReset_keeps : Keeps none s { s with resetHeld := true } :=
  ⟨id, id, fun h n => ⟨(h n).stands, fun e => by cases e⟩, fun _ _ => id, id, id, id⟩

end

/-! ### Every command -/

section
variable {s t : State}

theorem powered_keeps {f : State → State} (h : s.resetHeld = false → Keeps none s (f s)) (ht : powered s f = .next t) :
    Keeps none s t := by
  cases hs : s.resetHeld with
  | true =>
    rw [powered_held hs] at ht
    cases ht
    exact Keeps.refl ..
  | false =>
    rw [powered_on hs] at ht
    cases ht
    exact h hs

theorem request_keeps (i : Iface) (kind : Byte) (tag : Word) (params : List Word)
    (ht : powered s (takeRequest i kind tag params) = .next t) : Keeps none s t :=
  powered_keeps (fun _ => (takeRequest_steady ..).toKeeps) ht

theorem linkSignalAppears_keeps {n : LaneIx} (ht : execLinkSignalAppears n s = .next t) : Keeps none s t := by
  unfold execLinkSignalAppears at ht
  split at ht
  next hs =>
    cases ht
    exact (heldPins_steady hs true Lane.linkOut).toKeeps
  next => cases ht; exact linkSignalAppears_steady.toKeeps

theorem linkSignalLost_keeps {n : LaneIx} (ht : execLinkSignalLost n s = .next t) : Keeps none s t := by
  unfold execLinkSignalLost at ht
  split at ht
  next hs =>
    cases ht
    rw [setSignal, State.modifyLane_modifyLane]
    exact (heldPins_steady hs false fun _ => []).toKeeps
  next => cases ht; exact signalLost_keeps

theorem inputCarriageLine_keeps {n : LaneIx} {blanking : List Word} (ht : execInputCarriageLine n blanking s = .next t) :
    Keeps none s t := by
  unfold execInputCarriageLine at ht
  split at ht
  · cases ht
    split
    · exact (bypassLine_steady blanking).toKeeps
    · exact Keeps.refl ..
  next hs => cases ht; exact carriageLine_keeps (by simpa using hs) blanking

theorem takeExpiry_keeps (ht : execTakeExpiry s = .next t) : Keeps none s t := by
  refine powered_keeps (fun _ => ?_) ht
  split
  · split
    · exact (Steady.of (take := .none _)).toKeeps
    · exact Keeps.refl ..
  · exact Keeps.refl ..

theorem execPortPeriod_keeps {p : PortIx} (ht : execPortPeriod p s = .next t) : Keeps none s t :=
  powered_keeps (fun _ =>
    (Steady.trans (Steady.modifyPort (.of_transmit rfl id)) (portPeriod_steady ..)).toKeeps) ht

/-- Every command keeps the invariants. -/
theorem exec_keeps (c : Instr) (ht : exec c s = .next t) : Keeps none s t := by
  cases c with
  | powerOnResetAssert => cases ht; exact assertReset_keeps s
  | powerOnResetRelease u role lane => cases ht; exact releaseReset_keeps _ s
  | linkSignalAppears n => exact linkSignalAppears_keeps ht
  | linkSignalLost n => exact linkSignalLost_keeps ht
  | frameStart n timing => exact powered_keeps (fun hs => frameStart_keeps hs timing) ht
  | inputCarriageLine n blanking => exact inputCarriageLine_keeps ht
  | outputFrameStart n => exact powered_keeps (fun _ => (outputFrameStart_steady ..).toKeeps) ht
  | outputLineBuild n => exact powered_keeps (fun _ => (outputLineBuild_steady ..).toKeeps) ht
  | portWordReceived p w =>
    exact powered_keeps (f := fun s => s.modifyPort p (receiveWord w)) (fun _ => (receiveWord_steady ..).toKeeps) ht
  | stagingWordTaken p => exact powered_keeps (fun _ => (takeStagingWord_steady ..).toKeeps) ht
  | channelAbsenceTimeout p c => exact powered_keeps (fun _ => (absenceTimeout_steady ..).toKeeps) ht
  | portFrame p => exact powered_keeps (fun _ => (portFrame_steady ..).toKeeps) ht
  | portPeriod p => exact execPortPeriod_keeps ht
  | transmitStall p => exact powered_keeps (fun _ => (stallPort_steady ..).toKeeps) ht
  | outFifoWordTaken p =>
    exact powered_keeps (f := fun s => s.modifyPort p giveWord) (fun _ => (giveWord_steady ..).toKeeps) ht
  | readRoute i tag params => exact request_keeps i 0x01 tag params ht
  | readRouteState i tag params => exact request_keeps i 0x02 tag params ht
  | readSource i tag params => exact request_keeps i 0x03 tag params ht
  | readLane i tag params => exact request_keeps i 0x04 tag params ht
  | readPort i tag params => exact request_keeps i 0x05 tag params ht
  | readReference i tag params => exact request_keeps i 0x06 tag params ht
  | readTake i tag params => exact request_keeps i 0x07 tag params ht
  | readDevice i tag params => exact request_keeps i 0x08 tag params ht
  | setSource i tag params => exact request_keeps i 0x10 tag params ht
  | setReference i tag params => exact request_keeps i 0x11 tag params ht
  | setPort i tag params => exact request_keeps i 0x12 tag params ht
  | clearCounters i tag params => exact request_keeps i 0x18 tag params ht
  | resetUnit i tag params => exact request_keeps i 0x19 tag params ht
  | openTake i tag params => exact request_keeps i 0x20 tag params ht
  | setRoute i tag params => exact request_keeps i 0x21 tag params ht
  | setPlan i tag params => exact request_keeps i 0x22 tag params ht
  | commitTake i tag params => exact request_keeps i 0x23 tag params ht
  | abandonTake i tag params => exact request_keeps i 0x24 tag params ht
  | undoTake i tag params => exact request_keeps i 0x25 tag params ht
  | unknownRequestKind i kind tag params => exact powered_keeps (fun _ => (withRoom_steady (refuse_steady ..)).toKeeps) ht
  | takeExpiry => exact takeExpiry_keeps ht

/-! ### Every step -/

theorem idleStep_keeps (ht : idleStep s = .next t) : Keeps none s t := by
  unfold idleStep at ht
  split at ht
  · cases ht
    exact Keeps.refl ..
  · split at ht
    · exact exec_keeps _ ht
    · cases ht
      exact (stationSample_steady s).toKeeps

theorem step_keeps (ht : step s = .next t) : Keeps none s t := by
  unfold step at ht
  split at ht
  next c rest _ =>
    have hqueue : Steady none s { s with pending := rest } := Steady.of
    exact hqueue.toKeeps.trans (exec_keeps c ht)
  next => exact idleStep_keeps ht

end

/-- Settles O56: every command's change keeps entries, plans and the take. -/
theorem stepKeepsEntriesSound : Obligations.StepKeepsEntriesSound := fun _ _ h =>
  ⟨(step_keeps h).entries, (step_keeps h).take⟩

/-- Settles O59: every command's change keeps lanes, presence, ports and marks. -/
theorem stepKeepsLanesAndPortsSound : Obligations.StepKeepsLanesAndPortsSound := fun _ _ h =>
  ⟨(step_keeps h).lanesSound, (step_keeps h).presence, (step_keeps h).ports, (step_keeps h).marks⟩

end Sys2Proof.Machine
end

section
/-! A request row and the tests that come first (R25, R143, R163): O48. -/

namespace Sys2Proof.Machine

/-! ### Request rows (R25) -/

/-- A request row does what the control unit does with its request; the row of an unknown kind is answered as such, whatever
its kind (log entry 27). -/
theorem exec_request_cases {c : Instr} {q : Request} {s : State} (hs : s.resetHeld = false) (hq : requestOf c = some q) :
    ∃ kind : Byte, q.kind = kind.toNat
      ∧ (exec c s = .next (takeRequest q.iface kind q.tag q.params s)
        ∨ (c = .unknownRequestKind q.iface kind q.tag q.params
          ∧ exec c s = .next (unknownRequest q.iface kind q.tag s))) := by
  have hon (f : State → State) : powered s f = .next (f s) := powered_on hs f
  cases c with
  | readRoute => cases hq; exact ⟨0x01, rfl, .inl (hon _)⟩
  | readRouteState => cases hq; exact ⟨0x02, rfl, .inl (hon _)⟩
  | readSource => cases hq; exact ⟨0x03, rfl, .inl (hon _)⟩
  | readLane => cases hq; exact ⟨0x04, rfl, .inl (hon _)⟩
  | readPort => cases hq; exact ⟨0x05, rfl, .inl (hon _)⟩
  | readReference => cases hq; exact ⟨0x06, rfl, .inl (hon _)⟩
  | readTake => cases hq; exact ⟨0x07, rfl, .inl (hon _)⟩
  | readDevice => cases hq; exact ⟨0x08, rfl, .inl (hon _)⟩
  | setSource => cases hq; exact ⟨0x10, rfl, .inl (hon _)⟩
  | setReference => cases hq; exact ⟨0x11, rfl, .inl (hon _)⟩
  | setPort => cases hq; exact ⟨0x12, rfl, .inl (hon _)⟩
  | clearCounters => cases hq; exact ⟨0x18, rfl, .inl (hon _)⟩
  | resetUnit => cases hq; exact ⟨0x19, rfl, .inl (hon _)⟩
  | openTake => cases hq; exact ⟨0x20, rfl, .inl (hon _)⟩
  | setRoute => cases hq; exact ⟨0x21, rfl, .inl (hon _)⟩
  | setPlan => cases hq; exact ⟨0x22, rfl, .inl (hon _)⟩
  | commitTake => cases hq; exact ⟨0x23, rfl, .inl (hon _)⟩
  | abandonTake => cases hq; exact ⟨0x24, rfl, .inl (hon _)⟩
  | undoTake => cases hq; exact ⟨0x25, rfl, .inl (hon _)⟩
  | unknownRequestKind i kind tag params => cases hq; exact ⟨kind, rfl, .inr ⟨rfl, hon _⟩⟩
  | _ => cases hq

theorem takeRequest_unknown {kind : Byte} (h : knownRequestKinds.contains kind = false) (i : Iface) (tag : Word)
    (params : List Word) (s : State) : takeRequest i kind tag params s = unknownRequest i kind tag s := by
  have hkind : kind = BitVec.ofNat 8 kind.toNat := by simp
  unfold takeRequest
  split
  case h_20 => rfl
  all_goals
    rename_i hk
    rw [hkind, hk] at h
    exact absurd h (by decide)

/-- A request row that the outside can send is the control unit taking its request (R25, R163). -/
theorem exec_request {c : Instr} {q : Request} {s : State} (hs : s.resetHeld = false) (hq : requestOf c = some q)
    (hc : c.wellFormed = true) :
    exec c s = .next (takeRequest q.iface (BitVec.ofNat 8 q.kind) q.tag q.params s) := by
  obtain ⟨kind, hkind, hexec | ⟨hrow, hexec⟩⟩ := exec_request_cases hs hq
  · rw [hexec, hkind, BitVec.ofNat_toNat, BitVec.setWidth_eq]
  · rw [hrow] at hc
    have hunknown : knownRequestKinds.contains kind = false := by
      simp only [Instr.wellFormed, Bool.and_eq_true, Bool.not_eq_true'] at hc
      exact hc.1
    rw [hexec, hkind, BitVec.ofNat_toNat, BitVec.setWidth_eq, takeRequest_unknown hunknown]

/-! ### The room test and the form test (R25, R163) -/

/-- What the first two tests do to a request: dropped and counted without room, BAD REQUEST where it is not formed. -/
structure Tested (op : State → State) (i : Iface) (tag : Word) (kind : Byte) (formed : Bool) : Prop where
  full : ∀ s : State, ¬ s.replies.length < 8 → op s = { s with unanswered := raise s.unanswered 1 }
  refused : ∀ s : State, s.replies.length < 8 → formed = false → op s = refuse i tag kind s

/-- An act behind the room test that answers BAD REQUEST where the request is not formed. -/
theorem tested_withRoom {act : State → State} {i : Iface} {tag : Word} {kind : Byte} {formed : Bool}
    (h : formed = false → ∀ s, act s = refuse i tag kind s) :
    Tested (fun s => withRoom s act) i tag kind formed :=
  ⟨fun _ hs => withRoom_full hs _, fun s hs hf => (withRoom_free hs _).trans (h hf s)⟩

section
variable (i : Iface) (tag : Word) (kind : Byte) (params : List Word)

theorem withIndex_tested (n : Nat) (act : Fin n → State → State) :
    Tested (fun s => withIndex n i tag kind params s act) i tag kind
      (decide (params.length = 1) && decide ((params.getD 0 0).toNat < n)) := by
  refine tested_withRoom fun hf s => ?_
  match params with
  | [w] =>
    have hw : ¬ w.toNat < n := by simpa using hf
    simp only [readIndex_of_not_lt hw]
  | [] => rfl
  | _ :: _ :: _ => rfl

theorem withoutParams_tested (act : State → State) :
    Tested (fun s => withoutParams i tag kind params s act) i tag kind (decide (params.length = 0)) := by
  refine tested_withRoom fun hf s => ?_
  match params with
  | [] => cases hf
  | _ :: _ => rfl

theorem setSource_tested : Tested (setSource i tag params) i tag 0x10
    (decide (params.length = 2) && decide ((params.getD 0 0).toNat < 192)) := by
  refine tested_withRoom fun hf s => ?_
  match params with
  | [w, _] =>
    have hw : ¬ w.toNat < 192 := by simpa using hf
    simp only [readIndex_of_not_lt hw]
  | [] => rfl
  | [_] => rfl
  | _ :: _ :: _ :: _ => rfl

theorem setPort_tested : Tested (setPort i tag params) i tag 0x12
    (decide (params.length = 2) && decide ((params.getD 0 0).toNat < 2)) := by
  refine tested_withRoom fun hf s => ?_
  match params with
  | [w, _] =>
    have hw : ¬ w.toNat < 2 := by simpa using hf
    simp only [readIndex_of_not_lt hw]
  | [] => rfl
  | [_] => rfl
  | _ :: _ :: _ :: _ => rfl

theorem setReference_tested : Tested (setReference i tag params) i tag 0x11
    (decide (params.length = 2 ∨ (params.length = 3 ∧ (params.getD 2 0).toNat < 60000))) := by
  refine tested_withRoom fun hf s => ?_
  match params with
  | [_, _, preset] =>
    have hp : ¬ preset.toNat < 60000 := by simpa using hf
    simp only [readIndex_of_not_lt hp]
  | [] => rfl
  | [_] => rfl
  | [_, _] => simp at hf
  | _ :: _ :: _ :: _ :: _ => rfl

theorem setRoute_tested : Tested (setRoute i tag params) i tag 0x21
    (decide (2 ≤ params.length ∧ params.length = 5 + (params.getD 1 0).toNat / 256 % 8)) := by
  refine tested_withRoom fun hf s => ?_
  match params with
  | _ :: flags :: _ :: _ :: _ :: candidates =>
    have hc : candidates.length ≠ countField flags := by
      intro h
      simp only [List.length_cons, h, countField, field, List.getD_cons_succ, List.getD_cons_zero,
        decide_eq_false_iff_not] at hf
      omega
    simp only [if_neg hc]
  | [] => rfl
  | [_] => rfl
  | [_, _] => rfl
  | [_, _, _] => rfl
  | [_, _, _, _] => rfl

theorem setPlan_tested : Tested (setPlan i tag params) i tag 0x22
    (decide (params.length = 3) && decide ((params.getD 0 0).toNat < 10)) := by
  refine tested_withRoom fun hf s => ?_
  match params with
  | [w, _, _] =>
    have hw : ¬ w.toNat < 10 := by simpa using hf
    simp only [readIndex_of_not_lt hw]
  | [] => rfl
  | [_] => rfl
  | [_, _] => rfl
  | _ :: _ :: _ :: _ :: _ => rfl

/-- The first two tests of every request, by its kind (R25, R163). -/
theorem takeRequest_tested :
    Tested (takeRequest i kind tag params) i tag kind (Request.formed ⟨i, kind.toNat, tag, params⟩) := by
  by_cases hknown : knownRequestKinds.contains kind = true
  · rw [List.contains_iff_mem] at hknown
    simp only [knownRequestKinds, List.mem_cons, List.not_mem_nil, or_false] at hknown
    rcases hknown with rfl | rfl | rfl | rfl | rfl | rfl | rfl | rfl | rfl | rfl | rfl | rfl | rfl | rfl | rfl | rfl |
      rfl | rfl | rfl
    · exact withIndex_tested ..
    · exact withIndex_tested ..
    · exact withIndex_tested ..
    · exact withIndex_tested ..
    · exact withIndex_tested ..
    · exact withoutParams_tested ..
    · exact withoutParams_tested ..
    · exact withoutParams_tested ..
    · exact setSource_tested ..
    · exact setReference_tested ..
    · exact setPort_tested ..
    · exact withoutParams_tested ..
    · exact withoutParams_tested ..
    · exact withIndex_tested ..
    · exact setRoute_tested ..
    · exact setPlan_tested ..
    · exact withoutParams_tested ..
    · exact withoutParams_tested ..
    · exact withIndex_tested ..
  · rw [Bool.not_eq_true] at hknown
    have hop : takeRequest i kind tag params = unknownRequest i kind tag := by
      funext s
      exact takeRequest_unknown hknown ..
    rw [hop]
    exact tested_withRoom fun _ _ => rfl

end

/-- Settles O48: a row of a known kind by the tests of its kind; an unknown kind is refused whatever it holds. -/
theorem roomAndFormComeFirst : Obligations.RoomAndFormComeFirst := by
  intro c q s hs hq
  obtain ⟨kind, hkind, hexec⟩ := exec_request_cases hs hq
  obtain ⟨op, hop, htest⟩ : ∃ op, exec c s = .next (op s) ∧ Tested op q.iface q.tag kind q.formed := by
    rcases hexec with hexec | ⟨-, hexec⟩
    · refine ⟨_, hexec, ?_⟩
      have := takeRequest_tested q.iface q.tag kind q.params
      rwa [← hkind] at this
    · exact ⟨_, hexec, tested_withRoom fun _ _ => rfl⟩
  rw [hop]
  refine ⟨fun hfull => by rw [htest.full s (by omega)], fun hroom hf => ?_⟩
  rw [htest.refused s hroom hf, refuse, queueReply_eq_answer, hkind]
  rfl

end Sys2Proof.Machine
end

section
/-! Reply data as the statements write it (R26, R27), and the READ requests and SET SOURCE: O41, O42, O43. -/

namespace Sys2Proof.Machine

/-! ### The parts of reply data (R27) -/

theorem mul_bitNat (k : Nat) (b : Bool) : k * bitNat b = if b then k else 0 := by
  cases b <;> simp [bitNat]

theorem bytes_optionByte (x : Option Nat) (lo : Byte) :
    bytes (optionByte x) lo = BitVec.ofNat 16 (lo.toNat + 256 * x.getD 255) := by
  rw [bytes_eq_ofNat]
  apply BitVec.eq_of_toNat_eq
  cases x <;> simp only [optionByte, Option.getD, BitVec.toNat_ofNat, BitVec.ofNat_eq_ofNat] <;> omega

theorem countWords_eq (c : Count) : countWords c = countData c := by
  have hc := c.isLt
  have hhigh : bytes 0 (c.extractLsb' 16 8) = BitVec.ofNat 16 (c.toNat / 65536) := by
    rw [bytes_eq_ofNat, BitVec.extractLsb'_toNat, Nat.shiftRight_eq_div_pow]
    apply BitVec.eq_of_toNat_eq
    simp only [BitVec.toNat_ofNat, BitVec.ofNat_eq_ofNat]
    omega
  have hlow : c.extractLsb' 0 16 = BitVec.ofNat 16 (c.toNat % 65536) := by
    apply BitVec.eq_of_toNat_eq
    simp only [BitVec.extractLsb'_toNat, BitVec.toNat_ofNat, Nat.shiftRight_zero]
    omega
  rw [countWords, hhigh, hlow]
  rfl

theorem replySample_eq (v : Sample) : replySample v = sampleData v := by
  have h := fullPair_eq ⟨v, false⟩
  simp only [Bool.false_eq_true, if_false, Nat.add_zero] at h
  exact h

theorem flagsWord_eq (e : RouteEntry) :
    flagsWord e = BitVec.ofNat 16 ((if e.enabled then 1 else 0) + (if e.invert then 2 else 0) + (if e.mute then 4 else 0)
      + (if decide (e.absenceFill = .hold) then 8 else 0) + (if e.silenceWatch then 16 else 0)
      + (if decide (e.policy = .latched) then 32 else 0) + 256 * e.candidates.length) := by
  simp only [flagsWord, mul_bitNat]
  rfl

/-! ### A reply of a READ request (R167) -/

/-- An index of a block, as a parameter word, is read back. -/
theorem readIndex_ofNat {n : Nat} (hn : n ≤ 65536) (k : Fin n) : readIndex n (BitVec.ofNat 16 k.val) = some k := by
  have hk := k.isLt
  have hw : (BitVec.ofNat 16 k.val).toNat = k.val := by
    rw [BitVec.toNat_ofNat]
    omega
  rw [readIndex_of_lt (by rw [hw]; exact hk)]
  simp only [hw, Fin.eta]

section
variable {s : State} (hs : s.resetHeld = false) (hroom : s.replies.length < 8) (i : Iface) (tag : Word)
include hroom

theorem withIndex_ofNat {n : Nat} (hn : n ≤ 65536) (k : Fin n) (kind : Byte) (act : Fin n → State → State) :
    withIndex n i tag kind [BitVec.ofNat 16 k.val] s act = act k s := by
  rw [withIndex, withRoom_free hroom]
  simp only [readIndex_ofNat hn]

include hs

/-- A READ request of a block by its index: a DONE reply with the block's data, and what the act leaves (R167). -/
theorem exec_readIndexed {c : Instr} {n : Nat} (hn : n ≤ 65536) {kind : Byte} {k : Fin n} {act : Fin n → State → State}
    {data : Fin n → State → List Word}
    (hc : exec c s = powered s fun s => withIndex n i tag kind [BitVec.ofNat 16 k.val] s fun k s =>
      queueReply i .done tag kind (data k s) (act k s)) :
    exec c s = .next ((act k s).answer i 0 tag kind.toNat (data k s)) := by
  rw [hc, powered_on hs, withIndex_ofNat hroom i tag hn, queueReply_eq_answer]
  rfl

/-- A READ request without parameters. -/
theorem exec_readWhole {c : Instr} {kind : Byte} {data : State → List Word}
    (hc : exec c s = powered s fun s => withoutParams i tag kind [] s fun s => queueReply i .done tag kind (data s) s) :
    exec c s = .next (s.answer i 0 tag kind.toNat (data s)) := by
  rw [hc, powered_on hs, withoutParams_nil hroom, queueReply_eq_answer]
  rfl

end

/-! ### READ ROUTE and READ ROUTE STATE (R66, R68, R89) -/

/-- Settles O41: word by word, the live record by what its current stream is. -/
theorem routeReadsReport : Obligations.RouteReadsReport := by
  intro i tag d s hs hroom e r bit source fill code
  refine ⟨?_, ?_⟩
  · rw [exec_readIndexed (k := d) (kind := 0x01) (act := fun _ s => s) hs hroom i tag (by decide) rfl, routeData,
      flagsWord_eq]
    rfl
  · rw [exec_readIndexed (k := d) (kind := 0x02) (act := fun _ s => s) hs hroom i tag (by decide) rfl, routeStateData,
      countWords_eq, replySample_eq, bytes_optionByte]
    have hcode : (destStateCode r.state).toNat = code := by
      simp only [code]
      cases r.state <;> rfl
    have hsource : r.sourceStream = source := rfl
    have hword : streamWord r = BitVec.ofNat 16 (bit (source.any SourceStream.invert) 1
        + bit (source.any SourceStream.mute) 2 + fill + bit r.old.isSome 16) := by
      cases hcur : r.current with
      | none => simp [streamWord, source, fill, bit, hcur, mul_bitNat, toWord]
      | some x =>
        cases x with
        | source x => simp [streamWord, source, fill, bit, hcur, toWord, bitNat]
        | fill f => cases f <;> simp [streamWord, source, fill, bit, hcur, mul_bitNat, toWord]
    rw [hcode, hword, hsource]
    cases source <;> rfl

/-! ### READ SOURCE and SET SOURCE (R56, R63) -/

theorem sourceData_eq (k : SourceIx) (x : Source) :
    sourceData k x =
      [BitVec.ofNat 16 k.val, BitVec.ofNat 16 x.silenceLevel,
        BitVec.ofNat 16 ((if x.present then 1 else 0) + (if x.blockLoud then 2 else 0) + 256 * x.blockPosition)]
      ++ countData x.writeCount ++ [BitVec.ofNat 16 x.validSpan] ++ sampleData x.lastSample
      ++ [BitVec.ofNat 16 x.silentRun, BitVec.ofNat 16 x.activeRun, BitVec.ofNat 16 x.presentRun,
        BitVec.ofNat 16 x.peak, x.dropped, x.gaps] := by
  simp only [sourceData, countWords_eq, replySample_eq, mul_bitNat]
  rfl

/-- Settles O43: the record read before its peak is cleared; the level by its clamp. -/
theorem sourceIsReadAndSet : Obligations.SourceIsReadAndSet := by
  intro i tag k s hs hroom x
  refine ⟨?_, fun level => ?_⟩
  · rw [exec_readIndexed (k := k) (kind := 0x03) (act := fun k s => s.modifySource k fun x => { x with peak := 0 })
      (data := fun k s => sourceData k s.sources[k]) hs hroom i tag (by decide) ?_, sourceData_eq]
    · rfl
    · rfl
  · have he : exec (.setSource i tag [BitVec.ofNat 16 k.val, level]) s =
        powered s (setSource i tag [BitVec.ofNat 16 k.val, level]) := rfl
    rw [he, powered_on hs, setSource, withRoom_free hroom]
    simp only [readIndex_ofNat (n := 192) (by decide) k]
    rw [queueReply_eq_answer]
    split <;> rfl

/-! ### READ LANE, PORT, REFERENCE, TAKE and DEVICE (R121, R138, R149, R167, R171) -/

theorem phaseField_ite (l : Lane) (phase : Fin 5) :
    phaseField l phase =
      if l.inputState = .locked ∧ (l.format = some .f29 ∨ l.format = some .f59) then phase.val else 7 := by
  have hfrac : (l.format.map formatFractional).getD false = true ↔ l.format = some .f29 ∨ l.format = some .f59 := by
    cases l.format with
    | none => simp
    | some f => cases f <;> simp [formatFractional]
  simp only [phaseField, hfrac]

theorem strapWord_eq (x : Straps) :
    strapWord x = BitVec.ofNat 16 (x.unitAddress.toNat + (if decide (x.role = .follower) then 256 else 0)
      + 512 * x.refLane.val) := by
  simp only [strapWord, mul_bitNat]
  rfl

theorem portPlanB_eq (x : PortPlan) : portPlanB x = clockWord x.clock := rfl

theorem pendingBits_eq (due : LaneIx → Bool) :
    bitNat (due 0) + 2 * bitNat (due 1) + 4 * bitNat (due 2) + 8 * bitNat (due 3) + 16 * bitNat (due 4)
        + 32 * bitNat (due 5) + 64 * bitNat (due 6) + 128 * bitNat (due 7) =
      ((List.finRange 8).map fun n => if due n then 2 ^ n.val else 0).sum := by
  simp only [mul_bitNat, List.finRange_succ, List.finRange_zero, List.map_cons, List.map_nil, List.sum_cons, List.sum_nil]
  rw [bitNat]
  simp only [Nat.add_assoc]
  rfl

/-- Settles O42: each block's data word by word. -/
theorem blockReadsReport : Obligations.BlockReadsReport := by
  intro i tag s hs hroom bit nibbles mode format input transmit clock phase depth
  have hclock (c : Clock) : clockWord c = clock c := by cases c <;> rfl
  refine ⟨?_, ?_, ?_, ?_, ?_⟩
  · intro n l hfmt
    have hmode (m : GroupMode) : modeCode m = mode m := by cases m <;> rfl
    have hformat : (l.format.map formatCode).getD 255 = format l.format := by
      cases l.format with
      | none => rfl
      | some f => cases f <;> rfl
    have hinput : (inputStateCode l.inputState).toNat = input l.inputState := by cases l.inputState <;> rfl
    have hbudget : (if l.inputState = .locked then toWord (budgetInForce l) else 0) =
        BitVec.ofNat 16 (if l.inputState = .locked then l.budgetOn (l.format.getD .f23) else 0) := by
      by_cases hlock : l.inputState = .locked
      · obtain ⟨f, hf⟩ := Option.ne_none_iff_exists'.1 (hfmt hlock)
        rw [if_pos hlock, if_pos hlock, budgetInForce_eq hf, hf]
        rfl
      · rw [if_neg hlock, if_neg hlock]
        rfl
    rw [exec_readIndexed (k := n) (kind := 0x04) (act := fun _ s => s) (data := fun n s => laneData n s.lanes[n])
      hs hroom i tag (by decide) rfl]
    change Host.Outcome.next (s.answer i 0 tag 0x04 (laneData n l)) = _
    simp only [laneData, bytes_optionByte, hformat, hinput, hbudget, lanePlanA, lanePlanB, hmode, mul_bitNat,
      vector4_toList]
    rfl
  · intro p x present
    have htransmit : transmitCode x.transmit = transmit x.transmit := by cases x.transmit <;> rfl
    have hcount : bytes 0 x.nextCount = BitVec.ofNat 16 x.nextCount.toNat := by
      rw [bytes_eq_ofNat]
      exact congrArg (BitVec.ofNat 16) (Nat.zero_add _)
    rw [exec_readIndexed (k := p) (kind := 0x05) (act := fun _ s => s)
      (data := fun p s => portData p s.ports[p] (channelPresent s p)) hs hroom i tag (by decide) rfl]
    change Host.Outcome.next (s.answer i 0 tag 0x05 (portData p x present)) = _
    simp only [portData, htransmit, hcount, portPlanA, portPlanB_eq, hclock, mul_bitNat]
    rfl
  · have hsets : bytes s.ref.markOut s.ref.markIn =
        BitVec.ofNat 16 (s.ref.markIn.toNat + 256 * s.ref.markOut.toNat) := by
      rw [bytes_eq_ofNat, Nat.add_comm]
    rw [exec_readWhole (kind := 0x06) (data := referenceData) hs hroom i tag rfl]
    simp only [referenceData, referenceWord, hsets, pendingBits_eq fun n : LaneIx => (s.ref.pendingMark[n]).isSome,
      phaseField_ite]
    rfl
  · rw [exec_readWhole (kind := 0x07) (data := takeData) hs hroom i tag rfl]
    cases htake : s.take with
    | none =>
      simp only [takeData, htake]
      rfl
    | some k =>
      have hscope : bytes (BitVec.ofNat 8 k.scope.val) (if k.state = .opened then 1 else 2) =
          BitVec.ofNat 16 ((if k.state = .opened then 1 else 2) + 256 * k.scope.val) := by
        have hk := k.scope.isLt
        rw [bytes_eq_ofNat, BitVec.toNat_ofNat, Nat.mod_eq_of_lt (by omega), Nat.add_comm]
        split <;> rfl
      simp only [takeData, htake, hscope, mul_bitNat]
      rfl
  · rw [exec_readWhole (kind := 0x08) (data := deviceData) hs hroom i tag rfl, deviceData, strapWord_eq]
    rfl

end Sys2Proof.Machine
end

section
/-! The words of READ data, sent as SET requests, set what was read (R25, R27, R143, R152, R153): O54. -/

namespace Sys2Proof.Machine

/-! ### Bytes, bits and fields of a word (02) -/

@[simp] theorem hiByte_bytes (hi lo : Byte) : hiByte (bytes hi lo) = hi := by
  apply BitVec.eq_of_toNat_eq
  have hlo := lo.isLt
  have hhi := hi.isLt
  rw [hiByte, BitVec.extractLsb'_toNat, bytes_eq_ofNat, BitVec.toNat_ofNat, Nat.shiftRight_eq_div_pow]
  omega

@[simp] theorem loByte_bytes (hi lo : Byte) : loByte (bytes hi lo) = lo := by
  apply BitVec.eq_of_toNat_eq
  have hlo := lo.isLt
  rw [loByte, BitVec.extractLsb'_toNat, bytes_eq_ofNat, BitVec.toNat_ofNat, Nat.shiftRight_zero]
  omega

theorem field_toWord {m : Nat} (hm : m < 65536) (lo len : Nat) : field (toWord m) lo len = m / 2 ^ lo % 2 ^ len := by
  rw [field, toWord, BitVec.toNat_ofNat, Nat.mod_eq_of_lt hm]

theorem getLsbD_toWord {m k : Nat} {b : Bool} (hm : m < 65536) (h : m / 2 ^ k % 2 = bitNat b) :
    (toWord m).getLsbD k = b := by
  rw [BitVec.getLsbD, toWord, BitVec.toNat_ofNat, Nat.mod_eq_of_lt hm, Nat.testBit_eq_decide_div_mod_eq, h]
  cases b <;> rfl

theorem bitNat_le (b : Bool) : bitNat b ≤ 1 := by
  cases b <;> decide

/-! ### Route entries (R152) -/

theorem RouteEntry.sound_iff (e : RouteEntry) : e.sound = true ↔
    (e.candidates.length ≤ 4 ∧ e.candidates.Nodup ∧ 128 ≤ e.delay ∧ e.delay ≤ 6000)
      ∧ (e.enabled = true → e.candidates ≠ []) := by
  unfold RouteEntry.sound
  cases e.enabled <;> simp

/-- The fields of a route entry's flags word (02, Parameter words). -/
structure FlagsOf (w : Word) (e : RouteEntry) : Prop where
  enabled : w.getLsbD 0 = e.enabled
  invert : w.getLsbD 1 = e.invert
  mute : w.getLsbD 2 = e.mute
  hold : w.getLsbD 3 = decide (e.absenceFill = .hold)
  watch : w.getLsbD 4 = e.silenceWatch
  latched : w.getLsbD 5 = decide (e.policy = .latched)
  count : countField w = e.candidates.length

theorem flagsWord_flagsOf {e : RouteEntry} (h : e.candidates.length ≤ 4) : FlagsOf (flagsWord e) e := by
  have h0 := bitNat_le e.enabled
  have h1 := bitNat_le e.invert
  have h2 := bitNat_le e.mute
  have h3 := bitNat_le (decide (e.absenceFill = .hold))
  have h4 := bitNat_le e.silenceWatch
  have h5 := bitNat_le (decide (e.policy = .latched))
  unfold flagsWord
  constructor
  case count =>
    rw [countField, field_toWord (by omega)]
    omega
  all_goals
    refine getLsbD_toWord (by omega) ?_
    omega

theorem readCandidates_words (cs : List SourceIx) : readCandidates (cs.map fun c => toWord c.val) = some cs := by
  induction cs with
  | nil => rfl
  | cons c cs ih =>
    have hc := c.isLt
    have hw : (toWord c.val).toNat = c.val := by
      rw [toWord, BitVec.toNat_ofNat]
      omega
    rw [List.map_cons, readCandidates, dif_pos (by rw [hw]; exact hc), ih]
    simp only [hw, Option.map_some, Fin.eta]

/-- The words of an entry that could be committed are read as the entry, its delay as it is (R152). -/
theorem readEntry_words {e : RouteEntry} (h : e.sound = true) :
    readEntry (flagsWord e) (codesWord e) e.gain (toWord e.delay) e.candidates = e := by
  obtain ⟨⟨hlen, -, hlow, hhigh⟩, -⟩ := e.sound_iff.1 h
  have hflags := flagsWord_flagsOf hlen
  have hfail := e.failCode.isLt
  have hrevert := e.revertCode.isLt
  have hdelay : clampDelay (toWord e.delay).toNat = e.delay := by
    rw [clampDelay, toWord, BitVec.toNat_ofNat]
    omega
  have hcodes0 : field (codesWord e) 0 3 = e.failCode.val := by
    rw [codesWord, field_toWord (by omega)]
    omega
  have hcodes4 : field (codesWord e) 4 3 = e.revertCode.val := by
    rw [codesWord, field_toWord (by omega)]
    omega
  have hfill : (if decide (e.absenceFill = .hold) then AbsenceFill.hold else .silence) = e.absenceFill := by
    cases e.absenceFill <;> rfl
  have hpolicy : (if decide (e.policy = .latched) then RevertPolicy.latched else .auto) = e.policy := by
    cases e.policy <;> rfl
  simp only [readEntry, hflags.enabled, hflags.invert, hflags.mute, hflags.hold, hflags.watch, hflags.latched, hdelay,
    hcodes0, hcodes4, hfill, hpolicy, Fin.eta]

theorem testRoute_words {e : RouteEntry} (h : e.sound = true) {t : Take} {d : DestIx} (hd : trackScope d = t.scope) :
    testRoute t (toWord d.val) (flagsWord e) (codesWord e) e.gain (toWord e.delay)
      (e.candidates.map fun c => toWord c.val) = .ok (d, e) := by
  obtain ⟨⟨hlen, hnodup, -⟩, hsome⟩ := e.sound_iff.1 h
  have hflags := flagsWord_flagsOf hlen
  have hindex : readIndex 192 (toWord d.val) = some d := readIndex_ofNat (by decide) d
  have hcount : ¬ (4 < countField (flagsWord e) ∨ (countField (flagsWord e) = 0 ∧ (flagsWord e).getLsbD 0 = true)) := by
    rw [hflags.count, hflags.enabled]
    rintro (hlong | ⟨hnone, hon⟩)
    · omega
    · exact hsome hon (List.length_eq_zero_iff.1 hnone)
  simp only [testRoute, hindex, hd, ne_eq, not_true_eq_false, if_false, if_neg hcount, readCandidates_words, if_pos hnodup,
    readEntry_words h]

/-! ### Plans (R153) -/

theorem readMode_modeCode (m : GroupMode) : readMode (modeCode m) = m := by
  cases m <;> rfl

theorem modeCode_le (m : GroupMode) : modeCode m ≤ 3 := by
  cases m <;> decide

/-- The words of a lane plan that could be committed are read as the plan (R153). -/
theorem readLanePlan_words {p : LanePlan} (h : p.sound = true) : readLanePlan (lanePlanA p) (lanePlanB p) = p := by
  have hmodes (g : GroupIx) : field (lanePlanA p) (2 * g.val) 2 = modeCode p.modes[g] := by
    have h0 := modeCode_le p.modes[0]
    have h1 := modeCode_le p.modes[1]
    have h2 := modeCode_le p.modes[2]
    have h3 := modeCode_le p.modes[3]
    rw [lanePlanA, field_toWord (by omega)]
    fin_cases g <;> simp <;> omega
  have hbudget : readBudget (lanePlanB p) = p.budget := by
    unfold LanePlan.sound at h
    unfold readBudget lanePlanB
    cases hp : p.budget with
    | none => rfl
    | some b =>
      rw [hp, Option.all_some, decide_eq_true_eq] at h
      have hb : (toWord b).toNat = b := by
        rw [toWord, BitVec.toNat_ofNat]
        omega
      have hne : toWord b ≠ 0 := by
        intro e
        have := congrArg BitVec.toNat e
        rw [hb] at this
        simp at this
        omega
      rw [Option.getD_some, if_neg hne, hb]
      congr 1
      omega
  have hfour : (four fun g => readMode (field (lanePlanA p) (2 * g.val) 2)) = p.modes := by
    refine vector_ext_fin fun g => ?_
    rw [four_getElem, hmodes, readMode_modeCode]
  rw [readLanePlan, hfour, hbudget]

theorem planAdjusted_words {p : LanePlan} (h : p.sound = true) (scope : Iface) :
    planAdjusted scope (lanePlanB p) = false := by
  unfold planAdjusted
  split
  · unfold LanePlan.sound at h
    rw [decide_eq_false_iff_not, lanePlanB, toWord, BitVec.toNat_ofNat]
    cases hp : p.budget with
    | none => simp
    | some b =>
      rw [hp, Option.all_some, decide_eq_true_eq] at h
      simp only [Option.getD_some]
      omega
  · rfl

/-- The words of a port plan are read as the plan (R153). -/
theorem readPortPlan_words (p : PortPlan) : readPortPlan (portPlanA p) (portPlanB p) = p := by
  have hchannel (c : ChanIx) : (portPlanA p).getLsbD c.val = p.channels[c] := by
    have h0 := bitNat_le p.channels[0]
    have h1 := bitNat_le p.channels[1]
    have h2 := bitNat_le p.channels[2]
    have h3 := bitNat_le p.channels[3]
    refine getLsbD_toWord (by omega) ?_
    fin_cases c <;> simp <;> omega
  have hchannels : (four fun c => (portPlanA p).getLsbD c.val) = p.channels := by
    refine vector_ext_fin fun c => ?_
    rw [four_getElem, hchannel]
  have hclock : (if (portPlanB p).getLsbD 3 then Clock.station
      else .lane ⟨field (portPlanB p) 0 3, Nat.mod_lt _ (by decide)⟩) = p.clock := by
    unfold portPlanB
    cases p.clock with
    | station => rfl
    | lane n =>
      have hn := n.isLt
      have hbit : (toWord n.val).getLsbD 3 = false := getLsbD_toWord (by omega) (by simp [bitNat]; omega)
      have hfield : field (toWord n.val) 0 3 = n.val := by
        rw [field_toWord (by omega)]
        omega
      simp only [hbit, hfield, Bool.false_eq_true, if_false, Fin.eta]
  rw [readPortPlan, hchannels, hclock]

/-! ### Settings of the frame count unit (R143) -/

theorem readRole_word (role : Role) (lane : LaneIx) : readRole (referenceWord role lane) = role := by
  have hlane := lane.isLt
  have hbit : (referenceWord role lane).getLsbD 0 = decide (role = .follower) := by
    have h0 := bitNat_le (decide (role = .follower))
    refine getLsbD_toWord (by omega) ?_
    omega
  rw [readRole, hbit]
  cases role <;> rfl

theorem readRefLane_word (role : Role) (lane : LaneIx) : readRefLane (referenceWord role lane) = lane := by
  have hlane := lane.isLt
  have h0 := bitNat_le (decide (role = .follower))
  apply Fin.ext
  simp only [readRefLane, referenceWord]
  rw [field_toWord (by omega)]
  omega

/-- The settings of the frame count unit set again change nothing: a mark pends only where they let it (R143). -/
theorem setSettings_words {s : State} (h : s.marksSound) :
    setSettings (referenceWord s.ref.role s.ref.refLane) (bytes s.ref.markOut s.ref.markIn) s.ref = s.ref := by
  have hmarks : (updateAll s.ref.pendingMark fun n mark =>
      if s.ref.role = .follower ∧ inSet s.ref.markOut n = true then mark else none) = s.ref.pendingMark := by
    refine vector_ext_fin fun n => ?_
    rw [updateAll_getElem_fin]
    by_cases hp : (s.ref.pendingMark[n]).isSome = true
    · obtain ⟨hrole, hout, -⟩ := (h n).1 hp
      rw [if_pos ⟨hrole, hout⟩]
    · rw [Bool.not_eq_true, Option.isSome_eq_false_iff, Option.isNone_iff_eq_none] at hp
      rw [hp, ite_self]
  simp only [setSettings, readRole_word, readRefLane_word, hiByte_bytes, loByte_bytes, hmarks]

/-! ### What was read is set -/

section
variable {s : State} (hs : s.resetHeld = false) (hroom : s.replies.length < 8) (tag : Word)
include hs hroom

/-- SET ROUTE with the words of an entry latches it, in the OPEN take that owns the destination's scope (R152). -/
theorem exec_setRoute_words {k : Take} (hk : s.take = some k) (hopen : k.state = .opened) {e : RouteEntry}
    (he : e.sound = true) {d : DestIx} (hd : trackScope d = k.scope) :
    exec (.setRoute k.owner tag (routeData d e)) s =
      .next ({ s with take := some (latchRoute k d e) }.answer k.owner 0 tag 0x21 []) := by
  obtain ⟨⟨hlen, -, -, hhigh⟩, -⟩ := e.sound_iff.1 he
  have hown : ownTake k.owner s = .ok k := (ownTake_ok_iff ..).2 ⟨hk, rfl, hopen⟩
  have hcount : (e.candidates.map fun c => toWord c.val).length = countField (flagsWord e) := by
    rw [List.length_map, (flagsWord_flagsOf hlen).count]
  have hdelay : e.delay = (toWord e.delay).toNat := by
    rw [toWord, BitVec.toNat_ofNat]
    omega
  have hx : exec (.setRoute k.owner tag (routeData d e)) s = powered s (setRoute k.owner tag (routeData d e)) := rfl
  rw [hx, powered_on hs, setRoute, withRoom_free hroom]
  simp only [routeData, List.cons_append, List.nil_append, if_pos hcount, routeRequest, hown, testRoute_words he hd,
    if_pos hdelay]
  rw [queueReply_eq_answer]
  rfl

/-- SET PLAN with words that need no clamp latches their plan, in the OPEN take of the scope (R153). -/
theorem exec_setPlan_words {k : Take} (hk : s.take = some k) (hopen : k.state = .opened) {a b : Word}
    (hb : planAdjusted k.scope b = false) :
    exec (.setPlan k.owner tag [BitVec.ofNat 16 k.scope.val, a, b]) s =
      .next ({ s with take := some { k with plan := some (readPlan k.scope a b), expiry := 0 } }.answer
        k.owner 0 tag 0x22 []) := by
  have hown : ownTake k.owner s = .ok k := (ownTake_ok_iff ..).2 ⟨hk, rfl, hopen⟩
  have hx : exec (.setPlan k.owner tag [BitVec.ofNat 16 k.scope.val, a, b]) s =
    powered s (setPlan k.owner tag [BitVec.ofNat 16 k.scope.val, a, b]) := rfl
  rw [hx, powered_on hs, setPlan, withRoom_free hroom]
  simp only [readIndex_ofNat (n := 10) (by decide) k.scope, hown, ne_eq, not_true_eq_false, if_false, hb,
    Bool.false_eq_true]
  rw [queueReply_eq_answer]
  rfl

end

/-- Settles O54: entry, plans and settings by the round trip of their words. -/
theorem readDataSetsBack : Obligations.ReadDataSetsBack := by
  intro tag s hs hroom hsound
  obtain ⟨hentries, hplans, -⟩ := hsound
  refine ⟨fun k hk hopen => ?_, fun i hmarks => ⟨_, _, rfl, ?_⟩⟩
  · intro latched
    refine ⟨fun d hd => exec_setRoute_words hs hroom tag hk hopen (hentries d) hd, ?_, ?_⟩
    · intro n hn
      refine ⟨_, _, rfl, ?_⟩
      have hset := exec_setPlan_words hs hroom tag hk hopen (a := lanePlanA (s.lanes[n]).plan)
        (planAdjusted_words (hplans n) _)
      have hplan : readPlan k.scope (lanePlanA (s.lanes[n]).plan) (lanePlanB (s.lanes[n]).plan) =
          .lane (s.lanes[n]).plan := by
        rw [readPlan, hn, ifacePlace_laneScope]
        exact congrArg ScopePlan.lane (readLanePlan_words (hplans n))
      rw [hplan, show k.scope.val = n.val from congrArg Fin.val hn] at hset
      exact hset
    · intro p hp
      refine ⟨_, _, rfl, ?_⟩
      have hset := exec_setPlan_words hs hroom tag hk hopen (a := portPlanA (s.ports[p]).plan)
        (b := portPlanB (s.ports[p]).plan) (by rw [planAdjusted, hp, ifacePlace_portScope])
      have hplan : readPlan k.scope (portPlanA (s.ports[p]).plan) (portPlanB (s.ports[p]).plan) =
          .port (s.ports[p]).plan := by
        rw [readPlan, hp, ifacePlace_portScope]
        exact congrArg ScopePlan.port (readPortPlan_words _)
      rw [hplan, show k.scope.val = 8 + p.val from congrArg Fin.val hp] at hset
      exact hset
  · have hx (ps : List Word) : exec (.setReference i tag ps) s = powered s (setReference i tag ps) := rfl
    rw [hx, powered_on hs, setReference, withRoom_free hroom]
    simp only [applySettings, State.modifyRef, setSettings_words hmarks]
    rw [queueReply_eq_answer]
    rfl

end Sys2Proof.Machine
end

section
/-! The receive side of a port word by word (R122 to R124), and the hand-over of a request payload (R42, R126): O33, O35. -/

namespace Sys2Proof.Machine

/-! ### One port put in place -/

theorem State.modifyPort_eq_putPort (s : State) (p : PortIx) (f : Port → Port) :
    s.modifyPort p f = s.putPort p (f s.ports[p]) := rfl

@[simp] theorem State.putPort_putPort (s : State) (p : PortIx) (x y : Port) :
    (s.putPort p x).putPort p y = s.putPort p y := by
  simp [State.putPort]

@[simp] theorem State.putPort_port (s : State) (p : PortIx) (x : Port) : (s.putPort p x).ports[p] = x := by
  simp [State.putPort]

@[simp] theorem State.putPort_self (s : State) (p : PortIx) : s.putPort p s.ports[p] = s := by
  simp [State.putPort]

theorem setStaging_putPort (s : State) (p : PortIx) (x : Port) (g : Staging) :
    setStaging p g (s.putPort p x) = s.putPort p { x with staging := g } := by
  rw [setStaging, State.modifyPort_eq_putPort, State.putPort_putPort, State.putPort_port]

theorem countDiscard_putPort (s : State) (p : PortIx) (x : Port) :
    countDiscard p (s.putPort p x) =
      s.putPort p { x with counters := { x.counters with discarded := raise x.counters.discarded 1 } } := by
  rw [countDiscard, State.modifyPort_eq_putPort, State.putPort_putPort, State.putPort_port]

/-! ### The markers (R28) -/

theorem readMarker_eq (w : Word) :
    readMarker w =
      if w.toNat % 16 = 1 then .start (w.toNat / 256 % 8) else if w.toNat % 16 = 2 then .finish else .errorEnd := by
  have hcode : field w 0 4 = w.toNat % 16 := by simp [field]
  unfold readMarker
  rw [hcode]
  split
  next h => rw [if_pos h]; rfl
  next h => rw [if_neg (by omega), if_pos h]
  next h1 h2 => rw [if_neg h1, if_neg h2]

/-! ### A word taken by the staging (R123) -/

section
variable {p : PortIx} {w : PortWord} {rest : List PortWord} {s : State} (hs : s.resetHeld = false)
include hs

theorem exec_stagingWordTaken_none (h : (s.ports[p]).receiveEnable = false ∨ (s.ports[p]).inFifo = []) :
    exec (.stagingWordTaken p) s = .next s := by
  have hx : exec (.stagingWordTaken p) s = powered s (takeStagingWord p) := rfl
  rw [hx, powered_on hs, takeStagingWord]
  split
  next hr hf =>
    rcases h with h | h
    · rw [h] at hr; cases hr
    · rw [h] at hf; cases hf
  next => rfl

theorem exec_stagingWordTaken (hr : (s.ports[p]).receiveEnable = true) (hf : (s.ports[p]).inFifo = w :: rest) :
    exec (.stagingWordTaken p) s = .next (stageWord p w (s.putPort p { s.ports[p] with inFifo := rest })) := by
  have hx : exec (.stagingWordTaken p) s = powered s (takeStagingWord p) := rfl
  rw [hx, powered_on hs, takeStagingWord, hr, hf]
  rfl

end

section
variable {p : PortIx} {w : PortWord} {s : State} {y : Port}

theorem stageWord_idle (hst : y.staging = .idle) :
    stageWord p w (s.putPort p y) =
      s.putPort p (if w.marker = true ∧ w.data.toNat % 16 = 1 then
        { y with staging := .header (w.data.toNat / 256 % 8) } else y) := by
  rw [stageWord, State.putPort_port, hst]
  simp only [stageIdle, readMarker_eq]
  by_cases hm : w.marker = true
  · by_cases hc : w.data.toNat % 16 = 1
    · simp only [hm, hc, if_true, and_self, setStaging_putPort]
    · by_cases hc2 : w.data.toNat % 16 = 2 <;> simp [hm, hc, hc2]
  · simp [hm]

theorem stageWord_header {c : Nat} (hst : y.staging = .header c) :
    stageWord p w (s.putPort p y) =
      s.putPort p (if w.marker = true then
        { y with
          staging := if w.data.toNat % 16 = 1 then .header (w.data.toNat / 256 % 8) else .idle
          counters := { y.counters with discarded := raise y.counters.discarded 1 } }
        else { y with staging := .body c (hiByte w.data) (w.data.toNat % 128) [] 0 }) := by
  rw [stageWord, State.putPort_port, hst]
  simp only [stageHeader, readMarker_eq, countDiscard_putPort, setStaging_putPort]
  by_cases hm : w.marker = true
  · by_cases hc : w.data.toNat % 16 = 1
    · simp only [hm, hc, if_true]
    · by_cases hc2 : w.data.toNat % 16 = 2 <;> simp [hm, hc, hc2]
  · have hn : field w.data 0 7 = w.data.toNat % 128 := by simp [field]
    simp only [hm, hn, Bool.false_eq_true, if_false]

section
variable {c : Nat} {count : Byte} {n : Nat} {words : List Word} {length : Nat}
  (hst : y.staging = .body c count n words length)
include hst

theorem stageWord_body_data (hm : w.marker = false) :
    stageWord p w (s.putPort p y) = s.putPort p { y with
      staging := .body c count n (if length < 1024 then words ++ [w.data] else words) (length + 1) } := by
  rw [stageWord, State.putPort_port, hst]
  simp only [stageBody, hm, Bool.false_eq_true, if_false, setStaging_putPort]
  rfl

theorem stageWord_body_start (hm : w.marker = true) (hc : w.data.toNat % 16 = 1) :
    stageWord p w (s.putPort p y) = s.putPort p { y with
      staging := .header (w.data.toNat / 256 % 8)
      counters := { y.counters with discarded := raise y.counters.discarded 1 } } := by
  rw [stageWord, State.putPort_port, hst]
  simp only [stageBody, hm, if_true, readMarker_eq, hc, countDiscard_putPort, setStaging_putPort]

theorem stageWord_body_finish (hm : w.marker = true) (hc : w.data.toNat % 16 = 2) :
    stageWord p w (s.putPort p y) = judgeBundle p c count n words length (s.putPort p { y with staging := .idle }) := by
  rw [stageWord, State.putPort_port, hst]
  simp only [stageBody, hm, if_true, readMarker_eq, hc, setStaging_putPort]
  rfl

theorem stageWord_body_error (hm : w.marker = true) (hc1 : w.data.toNat % 16 ≠ 1) (hc2 : w.data.toNat % 16 ≠ 2) :
    stageWord p w (s.putPort p y) = s.putPort p { y with
      staging := .idle
      counters := { y.counters with discarded := raise y.counters.discarded 1 } } := by
  rw [stageWord, State.putPort_port, hst]
  simp only [stageBody, hm, if_true, readMarker_eq, if_neg hc1, if_neg hc2, setStaging_putPort, countDiscard_putPort]

end

end

/-- Without a timeout due, a word for the staging is the first of a port's due steps (log entry 2). -/
theorem portDue_staging {p : PortIx} {x : Port} (hr : x.receiveEnable = true) (hf : x.inFifo ≠ [])
    (hdue : ∀ c : ChanIx, x.absenceDue[c] = false) : ∃ rest, portDue p x = .stagingWordTaken p :: rest := by
  have hnone : (List.finRange 4).filter (fun c => x.absenceDue[c]) = [] := by
    rw [List.filter_eq_nil_iff]
    intro c _
    rw [hdue]
    exact Bool.false_ne_true
  rw [portDue, hnone, if_pos ⟨hr, hf⟩]
  exact ⟨_, rfl⟩

theorem step_stagingWordTaken {p : PortIx} {s : State} (hs : s.resetHeld = false) (hr : (s.ports[p]).receiveEnable = true)
    (hf : (s.ports[p]).inFifo ≠ []) (hpending : s.pending = []) (hfirst : p = 1 → portDue 0 s.ports[0] = [])
    (hdue : ∀ c : ChanIx, (s.ports[p]).absenceDue[c] = false) : step s = exec (.stagingWordTaken p) s := by
  obtain ⟨rest, hrest⟩ := portDue_staging (p := p) hr hf hdue
  have hsteps : ∃ more, dueSteps s = .stagingWordTaken p :: more := by
    by_cases hp : p = 0
    · subst hp
      exact ⟨_, congrArg (fun l => l ++ portDue 1 s.ports[1] ++ takeDue s.take) hrest⟩
    · obtain rfl := Fin.eq_one_of_ne_zero p hp
      exact ⟨_, by rw [dueSteps, hfirst rfl]; exact congrArg (· ++ takeDue s.take) hrest⟩
  obtain ⟨more, hmore⟩ := hsteps
  simp only [step, hpending, idleStep, hs, Bool.false_eq_true, if_false, hmore]

/-- Settles O33: by the state of the staging and the word. -/
theorem receiveSideTakesWords : Obligations.ReceiveSideTakesWords := by
  intro p w s hs x code channel discard
  refine ⟨?_, exec_stagingWordTaken_none hs, fun hr hf hpending hfirst hdue =>
    step_stagingWordTaken hs hr hf hpending hfirst hdue, fun rest hr hf => ?_⟩
  · have hx : exec (.portWordReceived p w) s = powered s fun s => s.modifyPort p (receiveWord w) := rfl
    rw [hx, powered_on hs]
    rfl
  intro y
  have hx : exec (.stagingWordTaken p) s = .next (stageWord p w (s.putPort p y)) := exec_stagingWordTaken hs hr hf
  rw [hx]
  refine ⟨fun hst => ?_, fun c hst => ?_, fun c count n words length hst => ⟨fun hm => ?_, fun hm hc => ?_,
    fun hm hc1 hc2 => ?_⟩⟩
  · rw [stageWord_idle (y := y) hst]
  · rw [stageWord_header (y := y) hst]
    by_cases hm : w.marker = true
    · rw [if_pos hm, if_pos hm]
      by_cases hc : code = 1
      · rw [if_pos hc, if_pos hc]
      · rw [if_neg hc, if_neg hc]
    · rw [if_neg hm, if_neg hm]
  · rw [stageWord_body_data (y := y) hst hm]
  · rw [stageWord_body_start (y := y) hst hm hc]
  · rw [stageWord_body_error (y := y) hst hm hc1 hc2]

/-! ### The hand-over of a request payload (R25, R42, R126) -/

section
variable (q : Request) (unit : Byte)

theorem handOver_payload (i : Iface) (s : State) :
    handOver i (q.payload unit) s = takeRequest i (BitVec.ofNat 8 q.kind) q.tag q.params s := by
  have hkind : hiByte (BitVec.ofNat 16 (256 * q.kind + unit.toNat)) = BitVec.ofNat 8 q.kind := by
    apply BitVec.eq_of_toNat_eq
    have hu := unit.isLt
    rw [hiByte, BitVec.extractLsb'_toNat, BitVec.toNat_ofNat, BitVec.toNat_ofNat, Nat.shiftRight_eq_div_pow]
    omega
  rw [Request.payload, handOver, hkind]

theorem requestAddress_toNat (payload : List Word) :
    (requestAddress payload).toNat = (payload.getD 0 0).toNat % 256 := by
  rw [requestAddress, loByte, BitVec.extractLsb'_toNat, Nat.shiftRight_zero]

theorem toThisUnit_iff (s : State) (payload : List Word) :
    toThisUnit s payload = true ↔ (payload.getD 0 0).toNat % 256 = s.straps.unitAddress.toNat := by
  rw [toThisUnit, decide_eq_true_eq, ← BitVec.toNat_inj, requestAddress_toNat, addressByte_toNat]

theorem isBroadcast_iff (payload : List Word) :
    isBroadcast payload = true ↔ (payload.getD 0 0).toNat % 256 = 255 := by
  rw [isBroadcast, decide_eq_true_eq, ← BitVec.toNat_inj, requestAddress_toNat]
  exact Iff.rfl

theorem payload_address : ((q.payload unit).getD 0 0).toNat % 256 = unit.toNat := by
  have hu := unit.isLt
  rw [Request.payload, List.getD_cons_zero, BitVec.toNat_ofNat]
  omega

end

/-! ### Bundles judged (R124, R126) -/

section
variable {p : PortIx} {c : Nat} {count : Byte} {n : Nat} {words : List Word} {length : Nat} {s : State}

theorem judgeBundle_discards (h : (c < 4 ∧ (n = 0 ∨ 64 < n ∨ length ≠ 16 * n)) ∨ c = 4 ∨ c = 5 ∨ c = 6
      ∨ (c = 7 ∧ (length < 2 ∨ 255 < length))) :
    judgeBundle p c count n words length s = countDiscard p s := by
  unfold judgeBundle
  by_cases hc : c < 4
  · rw [dif_pos hc, if_neg (by omega)]
  · rw [dif_neg hc]
    by_cases h7 : c = 7
    · rw [if_pos h7, if_neg (by omega)]
    · rw [if_neg h7]

theorem judgeBundle_control (hlow : 2 ≤ length) (hhigh : length ≤ 255) :
    judgeBundle p 7 count n words length s = controlBundleTaken p words s := by
  rw [judgeBundle, dif_neg (by decide), if_pos rfl, if_pos ⟨hlow, hhigh⟩]

theorem controlBundleTaken_ours (h : (words.getD 0 0).toNat % 256 = s.straps.unitAddress.toNat
      ∨ (words.getD 0 0).toNat % 256 = 255) :
    controlBundleTaken p words s = handOver (portScope p) words s :=
  if_pos (h.imp (toThisUnit_iff s words).2 (isBroadcast_iff words).2)

theorem controlBundleTaken_other (hu : (words.getD 0 0).toNat % 256 ≠ s.straps.unitAddress.toNat)
    (ha : (words.getD 0 0).toNat % 256 ≠ 255) : controlBundleTaken p words s = s :=
  if_neg fun h => h.elim (fun e => hu ((toThisUnit_iff s words).1 e)) fun e => ha ((isBroadcast_iff words).1 e)

end

/-- READ DEVICE is answered with straps and device counters (R27, R171). -/
theorem exec_readDevice {s : State} (hs : s.resetHeld = false) (hroom : s.replies.length < 8) (i : Iface) (tag : Word) :
    exec (.readDevice i tag []) s = .next (s.answer i 0 tag 0x08
      [BitVec.ofNat 16 (s.straps.unitAddress.toNat + 256 * (if s.straps.role = .follower then 1 else 0)
        + 512 * s.straps.refLane.val), s.unanswered, s.droppedApplied]) := by
  rw [exec_readWhole (kind := 0x08) (data := deviceData) hs hroom i tag rfl, deviceData, strapWord]
  cases s.straps.role <;> rfl

/-- Settles O35: the judgement by channel code and length, a control bundle then by its address. -/
theorem bundleIsJudged : Obligations.BundleIsJudged := by
  intro p c count n words length w rest s hs hr hf hm hend hst y
  have hjudged : exec (.stagingWordTaken p) s = .next (judgeBundle p c count n words length (s.putPort p y)) := by
    rw [exec_stagingWordTaken hs hr hf,
      stageWord_body_finish (y := { s.ports[p] with inFifo := rest }) hst hm hend]
  rw [hjudged]
  refine ⟨fun h => by rw [judgeBundle_discards h, countDiscard_putPort], fun hc hlow hhigh => ?_⟩
  rw [hc, judgeBundle_control hlow hhigh]
  intro address
  have hrequest (request : Instr) (q : Request) (unit : Byte) (hq : requestOf request = some q)
      (hwf : request.wellFormed = true) (hi : q.iface = portScope p) (hwords : words = q.payload unit)
      (hunit : unit.toNat = s.straps.unitAddress.toNat ∨ unit.toNat = 255) :
      Host.Outcome.next (controlBundleTaken p words (s.putPort p y)) = exec request (s.putPort p y) := by
    rw [exec_request (s := s.putPort p y) hs hq hwf, hwords,
      controlBundleTaken_ours (by rw [payload_address]; exact hunit), handOver_payload, hi]
  refine ⟨fun hu ha => by rw [controlBundleTaken_other (s := s.putPort p y) hu ha], hrequest, fun tag haddress hwords hroom => ?_⟩
  have hunit : (BitVec.ofNat 8 address).toNat = address := by
    rw [BitVec.toNat_ofNat]
    omega
  have hpayload : words = Request.payload ⟨portScope p, 0x08, tag, []⟩ (BitVec.ofNat 8 address) := by
    rw [Request.payload, hunit]
    exact hwords
  rw [hrequest (.readDevice (portScope p) tag []) ⟨portScope p, 0x08, tag, []⟩ (BitVec.ofNat 8 address) rfl rfl rfl
    hpayload (by rw [hunit]; exact haddress)]
  exact exec_readDevice (s := s.putPort p y) hs hroom ..

end Sys2Proof.Machine
end

section
/-! A good sound bundle (R29, R59, R62, R64, R125, R127): O34. -/

namespace Sys2Proof.Machine

/-! ### Samples of a bundle (R22, R29) -/

theorem readPair_eq (hi lo : Word) :
    readPair hi lo = if lo.toNat % 2 = 1 then BitVec.ofNat 24 (hi.toNat * 256 + lo.toNat / 256) else 0 := by
  have hbit : lo.getLsbD 0 = decide (lo.toNat % 2 = 1) := by
    rw [BitVec.getLsbD, Nat.testBit_zero]
  have hlo := lo.isLt
  rw [readPair, hbit]
  by_cases hv : lo.toNat % 2 = 1
  · simp only [hv, decide_true, if_true]
    apply BitVec.eq_of_toNat_eq
    have hbyte : (hiByte lo).toNat = lo.toNat / 256 := by
      rw [hiByte, BitVec.extractLsb'_toNat, Nat.shiftRight_eq_div_pow]
      omega
    have hlt := (hiByte lo).isLt
    have hhi := hi.isLt
    rw [BitVec.toNat_append, ← Nat.shiftLeft_add_eq_or_of_lt hlt, Nat.shiftLeft_eq, hbyte, BitVec.toNat_ofNat]
    omega
  · simp only [hv, decide_false, Bool.false_eq_true, if_false]

/-! ### Sources of a channel (R59, R62, R64) -/

theorem trackChannel_iff (i : Fin 192) (p : PortIx) (c : ChanIx) :
    trackPlace i = .port p ∧ trackChannel i = c ↔ i.val / 8 = 16 + 4 * p.val + c.val := by
  rw [trackPlace_eq_port_iff, trackChannel, Fin.ext_iff]
  constructor
  · rintro ⟨hp, hc⟩
    simp only at hc
    omega
  · intro h
    exact ⟨by omega, by simp only; omega⟩

theorem updateChannel_source (p : PortIx) (c : ChanIx) (f : Fin 8 → Source → Source) (s : State) (t : Fin 8)
    {i : SourceIx} (hi : i.val = 128 + 32 * p.val + 8 * c.val + t.val) :
    (updateChannel p c f s).sources[i] = f t s.sources[i] := by
  have hin : trackPlace i = .port p ∧ trackChannel i = c := (trackChannel_iff i p c).2 (by omega)
  have ht : (⟨i.val % 8, Nat.mod_lt _ (by decide)⟩ : Fin 8) = t := Fin.ext (by simp only; omega)
  rw [updateChannel, State.updateSources_sources, updateAll_getElem_fin, if_pos hin, ht]

theorem updateChannel_source_ne (p : PortIx) (c : ChanIx) (f : Fin 8 → Source → Source) (s : State) {i : SourceIx}
    (hi : i.val / 8 ≠ 16 + 4 * p.val + c.val) : (updateChannel p c f s).sources[i] = s.sources[i] := by
  rw [updateChannel, State.updateSources_sources, updateAll_getElem_fin,
    if_neg fun h => hi ((trackChannel_iff i p c).1 h)]

theorem appendSample_gaps (x : Source) (v : Sample) : (appendSample x v).gaps = x.gaps := by
  unfold appendSample countBlock
  split
  · split <;> rfl
  · rfl

theorem appendSamples_gaps (x : Source) (vs : List Sample) : (appendSamples x vs).gaps = x.gaps := by
  induction vs generalizing x with
  | nil => rfl
  | cons v vs ih => exact (ih (appendSample x v)).trans (appendSample_gaps x v)

/-- A presence begins anew the runs and the block alone (R59). -/
theorem becomePresent_eq {x : Source} (h : x.present = false) :
    becomePresent x = { x with
      present := true, silentRun := 0, activeRun := 0, presentRun := 0, blockPosition := 0, blockLoud := false } := by
  simp [becomePresent, h]

theorem bundleGap_eq (prev : Option Byte) (count : Byte) :
    bundleGap prev count = prev.any fun k => decide (count.toNat ≠ (k.toNat + 1) % 256) := by
  cases prev with
  | none => rfl
  | some k =>
    simp only [bundleGap, Option.any_some, ne_eq, ← BitVec.toNat_inj, BitVec.toNat_add]
    rfl

theorem judgeBundle_good {p : PortIx} {c : ChanIx} {count : Byte} {n : Nat} {words : List Word} {s : State}
    (h1 : 1 ≤ n) (h64 : n ≤ 64) :
    judgeBundle p c.val count n words (16 * n) s = goodBundle p c count n words s := by
  rw [judgeBundle, dif_pos c.isLt, if_pos ⟨h1, h64, rfl⟩]

theorem becomePresent_gaps (x : Source) : (becomePresent x).gaps = x.gaps := by
  unfold becomePresent
  split <;> rfl

theorem goodBundle_source (p : PortIx) (c : ChanIx) (count : Byte) (n : Nat) (body : List Word) (s : State) (t : Fin 8)
    {i : SourceIx} (hi : i.val = 128 + 32 * p.val + 8 * c.val + t.val) :
    (goodBundle p c count n body s).sources[i] =
      { becomePresent (appendSamples s.sources[i] (bodySamples n body t)) with
        gaps := raise (s.sources[i]).gaps (bitNat (bundleGap (s.ports[p]).prevCount[c] count)) } := by
  rw [goodBundle, State.modifyPort_sources, updateChannel_source p c _ s t hi]
  simp only [becomePresent_gaps, appendSamples_gaps]

theorem goodBundle_source_ne (p : PortIx) (c : ChanIx) (count : Byte) (n : Nat) (body : List Word) (s : State)
    {i : SourceIx} (hi : i.val / 8 ≠ 16 + 4 * p.val + c.val) :
    (goodBundle p c count n body s).sources[i] = s.sources[i] := by
  rw [goodBundle, State.modifyPort_sources, updateChannel_source_ne p c _ s hi]

/-- Settles O34: port and sources of the good bundle; the runs by whether the source was present. -/
theorem goodBundleIsTaken : Obligations.GoodBundleIsTaken := by
  intro p c count n words w rest s hs hr hf hm hend hst hlen h1 h64 stored gap
  have hstored (track : Fin 8) : bodySamples n words track = (List.range n).map fun k => stored k track := by
    simp only [bodySamples, readPair_eq]
    rfl
  refine ⟨goodBundle p c count n words (s.putPort p { s.ports[p] with inFifo := rest, staging := .idle }), ?_, ?_, ?_,
    fun i hi => ?_, fun track i hi => ?_⟩
  · rw [exec_stagingWordTaken hs hr hf, stageWord_body_finish (y := { s.ports[p] with inFifo := rest }) hst hm hend,
      judgeBundle_good h1 h64]
  · rfl
  · rw [goodBundle, State.modifyPort_ports, modifyAt_eq_set]
    simp [updateChannel, State.putPort, modifyAt_eq_set]
  · exact goodBundle_source_ne p c count n words _ hi
  · intro y
    have hy : appendSamples s.sources[i] (bodySamples n words track) = y := by rw [hstored]; rfl
    have hpresent : y.present = (s.sources[i]).present := hy ▸ appendSamples_present ..
    have hsource : (goodBundle p c count n words
          (s.putPort p { s.ports[p] with inFifo := rest, staging := .idle })).sources[i] =
        { becomePresent y with gaps := raise (s.sources[i]).gaps (bitNat gap) } := by
      rw [goodBundle_source p c count n words _ track hi, State.putPort_port, bundleGap_eq, ← hy]
      rfl
    rw [hsource]
    cases hp : (s.sources[i]).present with
    | true =>
      rw [becomePresent_of_present (hpresent.trans hp)]
      exact ⟨hpresent.trans hp, rfl, rfl, rfl, rfl, rfl, rfl, fun _ => rfl, fun h => absurd h.symm Bool.false_ne_true⟩
    | false =>
      rw [becomePresent_eq (hpresent.trans hp)]
      exact ⟨rfl, rfl, rfl, rfl, rfl, rfl, rfl, fun h => absurd h Bool.false_ne_true, fun _ => ⟨rfl, rfl, rfl, rfl⟩⟩

end Sys2Proof.Machine
end

section
/-! A port period of a RUNNING port (R29, R30, R106, R133 to R135): O38. -/

namespace Sys2Proof.Machine

/-! ### The words of a sound bundle (R29, R134) -/

/-- In a list made of pieces of w elements, element w·k + j is element j of piece k. -/
theorem getElem?_flatMap_pieces {α β : Type} {f : α → List β} {w : Nat} (hf : ∀ a, (f a).length = w) {l : List α} {k : Nat}
    {a : α} (ha : l[k]? = some a) {j : Nat} (hj : j < w) : (l.flatMap f)[w * k + j]? = (f a)[j]? := by
  induction l generalizing k with
  | nil => simp at ha
  | cons b l ih =>
    rw [List.flatMap_cons]
    cases k with
    | zero =>
      obtain rfl : b = a := by simpa using ha
      rw [Nat.mul_zero, Nat.zero_add, List.getElem?_append_left (by rw [hf]; exact hj)]
    | succ k =>
      have hle : (f b).length ≤ w * (k + 1) + j := by rw [hf, Nat.mul_succ]; omega
      rw [List.getElem?_append_right hle, hf]
      have hidx : w * (k + 1) + j - w = w * k + j := by rw [Nat.mul_succ]; omega
      rw [hidx, ih (by simpa using ha)]

theorem length_flatMap_pieces {α β : Type} {f : α → List β} {w : Nat} (hf : ∀ a, (f a).length = w) (l : List α) :
    (l.flatMap f).length = w * l.length := by
  simp [List.length_flatMap, hf, Nat.mul_comm]

theorem readMany_length (sources : Vector Source 192) (e : RouteEntry) (k : Nat) (r : LiveRecord) :
    (readMany sources e k r).2.length = k := by
  induction k generalizing r with
  | zero => rfl
  | succ k ih => rw [readMany, List.length_cons, ih]

theorem periodSamples_length (s : State) (p : PortIx) (c : ChanIx) : (periodSamples s p c).length = 128 := by
  rw [periodSamples, length_flatMap_pieces (w := 8) fun i => by simp]
  rfl

/-- Sample 8·i + t of a period is read number i of track t (R29, R133). -/
theorem periodSamples_getElem (s : State) (p : PortIx) (c : ChanIx) (i : Fin 16) (t : Fin 8) :
    (periodSamples s p c)[8 * i.val + t.val]? =
      (readMany s.sources s.entries[portTrack p c t] 16 s.dests[portTrack p c t]).2[i.val]? := by
  have hi : (List.range 16)[i.val]? = some i.val := by
    rw [List.getElem?_range i.isLt]
  have hread : i.val < (readMany s.sources s.entries[portTrack p c t] 16 s.dests[portTrack p c t]).2.length := by
    rw [readMany_length]
    exact i.isLt
  rw [periodSamples, getElem?_flatMap_pieces (w := 8) (fun i => by simp) hi t.isLt, List.getElem?_map,
    List.getElem?_eq_getElem (l := List.finRange 8) (by simp), Option.map_some, List.getElem_finRange,
    List.getElem?_eq_getElem hread]
  simp [-Fin.getElem_fin, List.getElem?_eq_getElem hread]

section
variable (c : ChanIx) (count : Byte) {samples : List OutSample} (hlen : samples.length = 128)
include hlen

theorem soundBundle_length : (soundBundle c count samples).length = 259 := by
  have hpairs := length_flatMap_pieces (f := fullPair) (w := 2) (fun _ => rfl) samples
  simp [soundBundle, hpairs, hlen]

theorem soundBundle_end : (soundBundle c count samples)[258]? = some { marker := true, data := 2 } := by
  have hpairs := length_flatMap_pieces (f := fullPair) (w := 2) (fun _ => rfl) samples
  have hbody : (startWord c.val :: dataWord (headerWord count 16) :: (samples.flatMap fullPair).map dataWord).length =
      258 := by
    simp [hpairs, hlen]
  rw [soundBundle, List.getElem?_append_right (by omega), hbody]
  rfl

/-- The two words of sample k of a bundle (R22, R29). -/
theorem soundBundle_pair {k : Nat} {o : OutSample} (ho : samples[k]? = some o) :
    (soundBundle c count samples)[2 + 2 * k]? =
        some { marker := false, data := BitVec.ofNat 16 (o.value.toNat / 256) }
      ∧ (soundBundle c count samples)[3 + 2 * k]? =
        some { marker := false
               data := BitVec.ofNat 16 (o.value.toNat % 256 * 256 + (if o.valid then 1 else 0)) } := by
  have hpairs := length_flatMap_pieces (f := fullPair) (w := 2) (fun _ => rfl) samples
  have hk : k < 128 := by
    rw [← hlen]
    exact (List.getElem?_eq_some_iff.1 ho).1
  have hword (j : Nat) (hj : j < 2) :
      (soundBundle c count samples)[2 + 2 * k + j]? = (fullPair o)[j]?.map dataWord := by
    rw [soundBundle, List.getElem?_append_left (by simp [hpairs, hlen]; omega),
      show 2 + 2 * k + j = 2 * k + j + 1 + 1 from by omega, List.getElem?_cons_succ, List.getElem?_cons_succ,
      List.getElem?_map, getElem?_flatMap_pieces (f := fullPair) (fun _ => rfl) ho hj]
  have h0 := hword 0 (by decide)
  have h1 := hword 1 (by decide)
  rw [fullPair_eq] at h0 h1
  refine ⟨h0, ?_⟩
  rw [show 3 + 2 * k = 2 + 2 * k + 1 from by omega]
  exact h1

end

theorem headerWord_eq (count : Byte) : headerWord count 16 = BitVec.ofNat 16 (256 * count.toNat + 16) := by
  rw [headerWord, bytes_eq_ofNat]
  rfl

/-! ### The bundles of the running channels (R133, R134) -/

theorem offered_cons (x : Port) (bundle : List PortWord) (rest : List (List PortWord)) :
    x.offered (bundle :: rest) = (writeBundle bundle x).offered rest := by
  have hbit (q : Prop) [Decidable q] : bitNat (decide q) = if q then 1 else 0 := by
    by_cases h : q <;> simp [bitNat, h]
  simp only [Port.offered, writeBundle, hbit]
  rfl

/-- The channels' turns are the offers of the bundles of those that run. -/
theorem writeChannels_eq_offered (s : State) (p : PortIx) (x : Port) (cs : List ChanIx) :
    cs.foldl (writeChannel s p) x =
      x.offered ((cs.filter fun c => x.running[c]).map fun c => soundBundle c x.nextCount (periodSamples s p c)) := by
  induction cs generalizing x with
  | nil => rfl
  | cons c cs ih =>
    rw [List.foldl_cons, writeChannel]
    by_cases hc : x.running[c] = true
    · rw [if_pos hc, ih, List.filter_cons, if_pos hc, List.map_cons, offered_cons]
      rfl
    · rw [if_neg hc, ih, List.filter_cons, if_neg hc]

theorem offered_periodDue (x : Port) (due : Bool) (bundles : List (List PortWord)) :
    ({ x with periodDue := due } : Port).offered bundles = { x.offered bundles with periodDue := due } := by
  induction bundles generalizing x with
  | nil => rfl
  | cons bundle rest ih =>
    rw [offered_cons, offered_cons, ← ih]
    rfl

/-! ### The reply of a period (R135) -/

theorem oldestReply_port (p : PortIx) (rs : List Reply) :
    oldestReply (portScope p) rs = rs.find? fun r => decide (r.iface.val = 8 + p.val) := by
  simp only [oldestReply, eq_portScope_iff]

theorem dropOldestReply_port (p : PortIx) (rs : List Reply) :
    dropOldestReply (portScope p) rs = rs.eraseP fun r => decide (r.iface.val = 8 + p.val) := by
  simp only [dropOldestReply, eq_portScope_iff]

/-- The control bundle of the oldest reply for a port, or no words. -/
def replyWords (p : PortIx) (rs : List Reply) : List PortWord :=
  (oldestReply (portScope p) rs).elim [] fun r => controlBundle r.payload

/-- The oldest reply leaves the queue for the out FIFO when its bundle fits, and else stays (R135). -/
theorem writeReply_eq (p : PortIx) (s : State) :
    let fifo := (s.ports[p]).outFifo
    let fits := decide (fifo.length + (replyWords p s.replies).length ≤ 2048)
    writeReply p s =
      { s.putPort p { s.ports[p] with outFifo := fifo ++ (if fits then replyWords p s.replies else []) } with
        replies := if fits then dropOldestReply (portScope p) s.replies else s.replies } := by
  intro fifo fits
  unfold writeReply
  cases hold : oldestReply (portScope p) s.replies with
  | none =>
    have hwords : replyWords p s.replies = [] := by rw [replyWords, hold]; rfl
    have hstays : dropOldestReply (portScope p) s.replies = s.replies :=
      List.eraseP_of_forall_not fun r hr => List.find?_eq_none.1 hold r hr
    rw [hwords, hstays, ite_self, ite_self, List.append_nil]
    exact (State.putPort_self s p).symm
  | some r =>
    have hwords : replyWords p s.replies = controlBundle r.payload := by rw [replyWords, hold]; rfl
    have hfits : (controlBundle r.payload).length ≤ freePlaces (s.ports[p]).outFifo ↔ fits = true := by
      have hpos : 1 ≤ (controlBundle r.payload).length := by simp [controlBundle]
      change (controlBundle r.payload).length ≤ 2048 - fifo.length ↔ fits = true
      rw [decide_eq_true_eq, hwords]
      omega
    by_cases hf : fits = true
    · simp only [if_pos (hfits.2 hf), hf, if_true, hwords]
      rfl
    · simp only [if_neg fun h => hf (hfits.1 h), hf, Bool.false_eq_true, if_false, List.append_nil]
      exact (State.putPort_self s p).symm

/-! ### The period (R133) -/

theorem periodReads_dest (p : PortIx) (s : State) (d : DestIx) :
    (periodReads p s).dests[d] =
      if trackPlace d = .port p ∧ (s.ports[p]).running[trackChannel d] = true then
        (readMany s.sources s.entries[d] 16 s.dests[d]).1
      else s.dests[d] :=
  updateAll_getElem_fin ..

theorem countPeriod_putPort (s : State) (p : PortIx) (x : Port) (rs : List Reply) :
    countPeriod p { s.putPort p x with replies := rs } =
      { s.putPort p { x with nextCount := x.nextCount + 1 } with replies := rs } := by
  simp [countPeriod, State.modifyPort, State.putPort, modifyAt_eq_set]

/-- The period of a RUNNING port: reads, bundles, reply, count. -/
theorem portPeriod_running {p : PortIx} {s : State} (h : (s.ports[p]).transmit = .running) :
    let y := writeChannels s p s.ports[p]
    let reply := replyWords p s.replies
    let fits := decide (y.outFifo.length + reply.length ≤ 2048)
    portPeriod p s =
      { (periodReads p s).putPort p { y with
          nextCount := (s.ports[p]).nextCount + 1, outFifo := y.outFifo ++ (if fits then reply else []) } with
        replies := if fits then dropOldestReply (portScope p) s.replies else s.replies } := by
  intro y reply fits
  have hport : (periodReads p s).modifyPort p (writeChannels s p) = (periodReads p s).putPort p y := rfl
  have hcount : y.nextCount = (s.ports[p]).nextCount :=
    (congrArg Port.nextCount (writeChannels_frame s p s.ports[p])).trans rfl
  rw [portPeriod, h]
  simp only [hport, writeReply_eq, State.putPort_putPort, State.putPort_port, countPeriod_putPort, ← hcount]
  rfl

/-- Settles O38: bundles, then the reply, then the count. -/
theorem soundBundleFollowsRoom : Obligations.SoundBundleFollowsRoom := by
  intro p s hs hrun x outs
  have hx : exec (.portPeriod p) s = powered s fun s =>
      portPeriod p (s.modifyPort p fun x => { x with periodDue := false }) := rfl
  rw [powered_on hs, State.modifyPort_eq_putPort, portPeriod_running (by rw [State.putPort_port]; exact hrun),
    State.putPort_port] at hx
  have hwritten : writeChannels (s.putPort p { x with periodDue := false }) p { x with periodDue := false } =
      { x.offered ((([0, 1, 2, 3] : List ChanIx).filter fun c => x.running[c]).map fun c =>
        soundBundle c x.nextCount (periodSamples s p c)) with periodDue := false } := by
    rw [← offered_periodDue]
    exact writeChannels_eq_offered ..
  rw [hwritten] at hx
  refine ⟨_, fun c => soundBundle c x.nextCount (periodSamples s p c), hx, ?_, fun c => ⟨soundBundle_length c _
    (periodSamples_length s p c), ?_, ?_, soundBundle_end c _ (periodSamples_length s p c), fun i track => ?_⟩, ?_,
    fun c d hd => ?_, fun d hd => ?_⟩
  · rfl
  · rw [Nat.mul_comm]; rfl
  · rw [← headerWord_eq]; rfl
  · have hread : i.val < (outs c track).length := by
      rw [readMany_length]
      exact i.isLt
    have ho := List.getElem?_eq_getElem hread
    have hpair := soundBundle_pair c x.nextCount (periodSamples_length s p c)
      ((periodSamples_getElem s p c i track).trans ho)
    exact ⟨_, ho, hpair⟩
  · intro y reply fits
    have hreply : replyWords p s.replies = reply := by rw [replyWords, oldestReply_port]; rfl
    have hfits : fits = decide (y.outFifo.length + (replyWords p s.replies).length ≤ 2048) := by rw [hreply]
    rw [hfits, ← hreply, ← dropOldestReply_port]
    exact ⟨congrArg State.ports (State.putPort_putPort s p { x with periodDue := false } _), rfl⟩
  · obtain ⟨hp, hc⟩ := (trackChannel_iff d p c).2 hd
    refine (periodReads_dest ..).trans ?_
    simp only [State.putPort_port, hp, hc, true_and]
    exact if_congr Iff.rfl rfl rfl
  · refine (periodReads_dest ..).trans (if_neg fun h => hd ?_)
    exact (trackPlace_eq_port_iff ..).1 h.1

end Sys2Proof.Machine
end

section
/-! Packets in a blanking space (R18 to R20): what the scan finds, and a built packet read back. O21. -/

namespace Sys2Proof.Machine

/-! ### The scan (R18) -/

/-- A packet as the scan delimits it: the lead word, the kind and length word, and as many words more as it says with a check
word. -/
def IsPacket (p : List Word) : Prop :=
  ∃ (head : Word) (rest : List Word), p = leadWord :: head :: rest ∧ rest.length = lengthField head + 1

theorem scanFrom_skip {ws : List Word} {skip : Nat} (h : ws.length = skip) (tail : List Word) :
    scanFrom skip (ws ++ tail) = scanFrom 0 tail := by
  induction ws generalizing skip with
  | nil => subst h; rfl
  | cons w ws ih =>
    subst h
    exact ih rfl

theorem scanLine_passed {passed : List Word} (h : ∀ w ∈ passed, w ≠ leadWord) (tail : List Word) :
    scanLine (passed ++ tail) = scanLine tail := by
  induction passed with
  | nil => rfl
  | cons w ws ih =>
    rw [List.cons_append, scanLine, scanFrom.eq_def]
    refine (if_neg (h w (by simp))).trans ?_
    exact ih fun v hv => h v (by simp [hv])

/-- Filler holds no packet. -/
@[simp] theorem scanLine_filler (k : Nat) : scanLine (List.replicate k 0) = ([], false) := by
  have h := scanLine_passed (passed := List.replicate k 0) (fun w hw => by
    rw [List.eq_of_mem_replicate hw]
    decide) []
  rwa [List.append_nil] at h

theorem scanLine_packet {p : List Word} (h : IsPacket p) (tail : List Word) :
    scanLine (p ++ tail) = (p :: (scanLine tail).1, (scanLine tail).2) := by
  obtain ⟨head, rest, rfl, hrest⟩ := h
  have hfits : ¬ (head :: (rest ++ tail)).length < lengthField head + 2 := by
    rw [List.length_cons, List.length_append]
    omega
  have htake : (leadWord :: head :: (rest ++ tail)).take (lengthField head + 3) = leadWord :: head :: rest := by
    rw [List.take_succ_cons, List.take_succ_cons, ← hrest, List.take_left]
  have hskip : scanFrom (lengthField head + 2) (head :: (rest ++ tail)) = scanLine tail :=
    scanFrom_skip (ws := head :: rest) (by rw [List.length_cons, hrest]) tail
  rw [List.cons_append, List.cons_append, scanLine, scanFrom, if_pos rfl]
  simp only [if_neg hfits, htake, hskip]

/-- A packet that runs past the line end, or a lead word in the last word, stops the scan (R18). -/
theorem scanLine_cut {tail : List Word}
    (h : ∀ head rest, tail = head :: rest → rest.length < lengthField head + 1) :
    scanLine (leadWord :: tail) = ([], true) := by
  rw [scanLine, scanFrom.eq_def]
  refine (if_pos rfl).trans ?_
  cases tail with
  | nil => rfl
  | cons head rest =>
    have hlen := h head rest rfl
    simp only [List.length_cons, if_pos (show rest.length + 1 < lengthField head + 2 by omega)]

theorem scanLine_packets {ps : List (List Word)} (h : ∀ p ∈ ps, IsPacket p) (tail : List Word) :
    scanLine (ps.flatten ++ tail) = (ps ++ (scanLine tail).1, (scanLine tail).2) := by
  induction ps with
  | nil => rfl
  | cons p ps ih =>
    rw [List.flatten_cons, List.append_assoc, scanLine_packet (h p (by simp)), ih fun q hq => h q (by simp [hq])]
    rfl

/-! ### Built packets (R18, R19) -/

theorem wordSum_toNat (ws : List Word) : (wordSum ws).toNat = (ws.map BitVec.toNat).sum % 65536 := by
  induction ws with
  | nil => rfl
  | cons w ws ih =>
    have h : wordSum (w :: ws) = w + wordSum ws := rfl
    rw [h, BitVec.toNat_add, ih, List.map_cons, List.sum_cons]
    omega

theorem wordSum_eq_zero_iff (ws : List Word) : wordSum ws = 0 ↔ (ws.map BitVec.toNat).sum % 65536 = 0 := by
  rw [← wordSum_toNat, ← BitVec.toNat_inj]
  exact Iff.rfl

theorem wordSum_append (as bs : List Word) : wordSum (as ++ bs) = wordSum as + wordSum bs := by
  induction as with
  | nil => exact (BitVec.zero_add _).symm
  | cons a as ih =>
    have h (ws : List Word) : wordSum (a :: ws) = a + wordSum ws := rfl
    rw [List.cons_append, h, h, ih, BitVec.add_assoc]

@[simp] theorem wordSum_buildPacket (kind : Byte) (payload : List Word) : wordSum (buildPacket kind payload) = 0 := by
  have hone (w : Word) : wordSum [w] = w := BitVec.add_zero w
  rw [buildPacket, wordSum_append, hone, BitVec.add_right_neg]
  rfl

theorem lengthField_bytes {kind : Byte} {n : Nat} (h : n ≤ 255) : lengthField (bytes kind (BitVec.ofNat 8 n)) = n := by
  rw [lengthField, loByte_bytes, BitVec.toNat_ofNat]
  omega

theorem buildPacket_isPacket (kind : Byte) {payload : List Word} (h : payload.length ≤ 255) :
    IsPacket (buildPacket kind payload) := by
  refine ⟨bytes kind (BitVec.ofNat 8 payload.length), _, rfl, ?_⟩
  rw [lengthField_bytes h]
  simp

@[simp] theorem packetKind_buildPacket (kind : Byte) (payload : List Word) :
    packetKind (buildPacket kind payload) = kind :=
  hiByte_bytes ..

@[simp] theorem packetPayload_buildPacket (kind : Byte) (payload : List Word) :
    packetPayload (buildPacket kind payload) = payload := by
  rw [packetPayload, buildPacket_length, Nat.add_sub_cancel]
  exact List.take_left ..

/-- Settles O21: the packets placed, then filler. -/
theorem builtLineReadsBack : Obligations.BuiltLineReadsBack := by
  intro packets space hlen
  have hpackets : ∀ p ∈ packets.map (fun q => buildPacket q.1 q.2), IsPacket p := by
    intro p hp
    obtain ⟨q, hq, rfl⟩ := List.mem_map.1 hp
    exact buildPacket_isPacket _ (hlen q hq)
  refine ⟨?_, fun q _ => ⟨?_, packetKind_buildPacket .., packetPayload_buildPacket .., buildPacket_length ..⟩⟩
  · rw [lineContent, scanLine_packets hpackets, scanLine_filler, List.append_nil]
  · rw [← wordSum_eq_zero_iff, wordSum_buildPacket]

end Sys2Proof.Machine
end

section
/-! A line of a LOCKED lane parsed packet by packet (R31, R33 to R45): lines of one packet. O12, O13, O16. -/

namespace Sys2Proof.Machine

/-! ### One lane put in place -/

@[simp] theorem State.putLane_putLane (s : State) (n : LaneIx) (l m : Lane) :
    (s.putLane n l).putLane n m = s.putLane n m := by
  simp [State.putLane]

@[simp] theorem State.putLane_lane (s : State) (n : LaneIx) (l : Lane) : (s.putLane n l).lanes[n] = l := by
  simp [State.putLane]

/-! ### The parse of a line (R31, R33) -/

/-- The state in which the first packet of a lane's line is taken: the line is counted and the pass list begins empty. -/
def State.parsing (s : State) (n : LaneIx) : State :=
  s.putLane n { s.lanes[n] with lineCount := (s.lanes[n]).lineCount + 1, passProgress := [] }

/-- A line of a LOCKED lane: its packets one after another, then its end (R31). -/
theorem exec_inputCarriageLine_parsed {n : LaneIx} {s : State} (h : s.takesLine n) (blanking : List Word) :
    exec (.inputCarriageLine n blanking) s =
      .next (finishLine n (s.lanes[n]).lineCount blanking (scanLine blanking).2
        ((scanLine blanking).1.foldl (stripPacket n) (s.parsing n))) := by
  obtain ⟨hs, hlock, hopen, hcount⟩ := h
  have hsignal : (s.lanes[n]).inputState ≠ .noSignal := by
    rw [hlock]
    decide
  rw [exec_inputCarriageLine hs, carriageLine_counted hsignal hopen hcount, countedLine]
  simp only [State.modifyLane_lanes, modifyAt_getElem_self, hlock, if_true, stripLine, beginPassList,
    State.modifyLane_modifyLane]
  rfl

theorem finishLine_putLane (n : LaneIx) (j : Nat) (blanking : List Word) (malformed : Bool) (u : State) (l : Lane) :
    finishLine n j blanking malformed (u.putLane n l) =
      u.putLane n { l with
        counters := { l.counters with malformed := raise l.counters.malformed (bitNat malformed) }
        awaiting := some { line := j, blanking := blanking, passList := l.passProgress }
        passProgress := [] } := by
  rw [finishLine, State.modifyLane_eq_putLane, State.putLane_putLane, State.putLane_lane]

/-- The end of a line that is not malformed: its pass list awaits the build (R31). -/
theorem finishLine_whole (n : LaneIx) (j : Nat) (blanking : List Word) (u : State) :
    finishLine n j blanking false u =
      u.putLane n { u.lanes[n] with
        awaiting := some { line := j, blanking := blanking, passList := (u.lanes[n]).passProgress }
        passProgress := [] } := by
  have h := finishLine_putLane n j blanking false u u.lanes[n]
  rw [State.putLane_self] at h
  rw [h, bitNat, if_neg Bool.false_ne_true, raise_zero]

theorem enterPassList_putLane (n : LaneIx) (group : Option GroupIx) (p : List Word) (u : State) (l : Lane) :
    enterPassList n group p (u.putLane n l) =
      u.putLane n { l with passProgress := l.passProgress ++ [⟨group, p⟩] } := by
  rw [enterPassList, State.modifyLane_eq_putLane, State.putLane_putLane, State.putLane_lane]

/-- A line of one packet and filler. -/
theorem exec_packetLine {n : LaneIx} {s : State} (h : s.takesLine n) {p : List Word} (hp : IsPacket p) (k : Nat) :
    exec (.inputCarriageLine n (packetLine p k)) s =
      .next (finishLine n (s.lanes[n]).lineCount (packetLine p k) false (stripPacket n (s.parsing n) p)) := by
  rw [exec_inputCarriageLine_parsed h, packetLine, scanLine_packet hp, scanLine_filler]
  rfl

/-! ### The kinds (R20) -/

theorem packetClass_full {kind : Byte} {g : GroupIx} (h : kind.toNat = 0x41 + g.val) :
    packetClass kind = .sound g .full := by
  rw [packetClass, h]
  fin_cases g <;> rfl

theorem packetClass_compact {kind : Byte} {g : GroupIx} (h : kind.toNat = 0x49 + g.val) :
    packetClass kind = .sound g .compact := by
  rw [packetClass, h]
  fin_cases g <;> rfl

theorem packetClass_soundKind (g : GroupIx) (grade : Grade) : packetClass (soundKind g grade) = .sound g grade := by
  cases grade with
  | full => exact packetClass_full (by fin_cases g <;> rfl)
  | compact => exact packetClass_compact (by fin_cases g <;> rfl)

/-- A kind byte by what it names (R20). -/
theorem packetClass_cases (kind : Byte) :
    (∃ g : GroupIx, kind.toNat = 0x41 + g.val ∧ packetClass kind = .sound g .full)
      ∨ (∃ g : GroupIx, kind.toNat = 0x49 + g.val ∧ packetClass kind = .sound g .compact)
      ∨ ((∀ g : GroupIx, kind.toNat ≠ 0x41 + g.val ∧ kind.toNat ≠ 0x49 + g.val)
        ∧ ∀ g grade, packetClass kind ≠ .sound g grade) := by
  by_cases hfull : 0x41 ≤ kind.toNat ∧ kind.toNat ≤ 0x44
  · have h : kind.toNat = 0x41 + (⟨kind.toNat - 0x41, by omega⟩ : GroupIx).val := by simp only; omega
    exact .inl ⟨_, h, packetClass_full h⟩
  by_cases hcompact : 0x49 ≤ kind.toNat ∧ kind.toNat ≤ 0x4C
  · have h : kind.toNat = 0x49 + (⟨kind.toNat - 0x49, by omega⟩ : GroupIx).val := by simp only; omega
    exact .inr (.inl ⟨_, h, packetClass_compact h⟩)
  · refine .inr (.inr ⟨fun g => ⟨by omega, by omega⟩, fun g grade => ?_⟩)
    unfold packetClass
    split
    all_goals
      intro e
      cases e
    all_goals omega

/-! ### Good packets (R19, R20) -/

theorem packetGood_buildPacket (kind : Byte) (payload : List Word) :
    packetGood (buildPacket kind payload) = kindCondition (packetClass kind) payload := by
  rw [packetGood, wordSum_buildPacket, packetKind_buildPacket, packetPayload_buildPacket, decide_eq_true rfl,
    Bool.true_and]

/-! ### Sources of a group (R35 to R37) -/

theorem trackGroup_iff (i : Fin 192) (n : LaneIx) (g : GroupIx) :
    trackPlace i = .lane n ∧ trackGroup i = g ↔ i.val / 4 = 4 * n.val + g.val := by
  rw [trackPlace_eq_lane_iff, trackGroup, Fin.ext_iff]
  constructor
  · rintro ⟨hn, hg⟩
    simp only at hg
    omega
  · intro h
    exact ⟨by omega, by simp only; omega⟩

theorem updateGroup_source (n : LaneIx) (g : GroupIx) (f : Fin 4 → Source → Source) (s : State) (i : SourceIx) :
    (updateGroup n g f s).sources[i] =
      if i.val / 4 = 4 * n.val + g.val then f ⟨i.val % 4, Nat.mod_lt _ (by decide)⟩ s.sources[i] else s.sources[i] := by
  rw [updateGroup, State.updateSources_sources, updateAll_getElem_fin]
  exact if_congr (trackGroup_iff i n g) rfl rfl

/-! ### Damaged packets (R34, R35) -/

theorem dropDamaged_frame (n : LaneIx) (p : List Word) (s : State) :
    dropDamaged n p s = { s.putLane n { s.lanes[n] with
        counters := { (s.lanes[n]).counters with damaged := raise (s.lanes[n]).counters.damaged 1 } } with
      sources := (dropDamaged n p s).sources } := by
  unfold dropDamaged
  split <;> rfl

theorem dropDamaged_source {p : List Word} {g : GroupIx} {grade : Grade}
    (h : packetClass (packetKind p) = .sound g grade) (n : LaneIx) (s : State) (i : SourceIx) :
    (dropDamaged n p s).sources[i] =
      if i.val / 4 = 4 * n.val + g.val then
        { s.sources[i] with dropped := raise (s.sources[i]).dropped (damageAmount (packetPayload p)) }
      else s.sources[i] := by
  rw [dropDamaged, h]
  exact updateGroup_source ..

theorem dropDamaged_sources_other {p : List Word} (h : ∀ g grade, packetClass (packetKind p) ≠ .sound g grade)
    (n : LaneIx) (s : State) : (dropDamaged n p s).sources = s.sources := by
  unfold dropDamaged
  split
  next g grade hc => exact absurd hc (h g grade)
  next => rfl

/-- The sources of a damaged packet's group by its kind byte (R20, R35). -/
theorem dropDamaged_source_kind (n : LaneIx) (p : List Word) (s : State) (i : SourceIx) :
    (dropDamaged n p s).sources[i] =
      if (0x41 ≤ (packetKind p).toNat ∧ (packetKind p).toNat ≤ 0x44
            ∧ i.val / 4 = 4 * n.val + ((packetKind p).toNat - 0x41))
          ∨ (0x49 ≤ (packetKind p).toNat ∧ (packetKind p).toNat ≤ 0x4C
            ∧ i.val / 4 = 4 * n.val + ((packetKind p).toNat - 0x49)) then
        { s.sources[i] with dropped := raise (s.sources[i]).dropped (damageAmount (packetPayload p)) }
      else s.sources[i] := by
  rcases packetClass_cases (packetKind p) with ⟨g, hg, hc⟩ | ⟨g, hg, hc⟩ | ⟨hg, hc⟩
  · rw [dropDamaged_source hc]
    exact if_congr (by omega) rfl rfl
  · rw [dropDamaged_source hc]
    exact if_congr (by omega) rfl rfl
  · rw [dropDamaged_sources_other hc, if_neg]
    rintro (⟨hlow, hhigh, -⟩ | ⟨hlow, hhigh, -⟩)
    · exact (hg ⟨(packetKind p).toNat - 0x41, by omega⟩).1 (by simp only; omega)
    · exact (hg ⟨(packetKind p).toNat - 0x49, by omega⟩).2 (by simp only; omega)

theorem stripPacket_damaged {p : List Word} (h : packetGood p = false) (n : LaneIx) (s : State) :
    stripPacket n s p = dropDamaged n p s := by
  rw [stripPacket, h]
  rfl

section
variable {head : Word} {rest : List Word} (hrest : rest.length = (loByte head).toNat + 1)
include hrest

theorem packetPayload_length : (packetPayload (leadWord :: head :: rest)).length = (loByte head).toNat := by
  simp [packetPayload, hrest]

theorem fieldM_payload (h : 1 ≤ (loByte head).toNat) :
    fieldM (packetPayload (leadWord :: head :: rest)) = (rest.getD 0 0).toNat % 8 := by
  have hfirst : (packetPayload (leadWord :: head :: rest)).getD 0 0 = rest.getD 0 0 := by
    simp only [packetPayload, List.drop_succ_cons, List.drop_zero, List.length_cons, hrest,
      List.getD_eq_getElem?_getD]
    rw [List.getElem?_take_of_lt (by omega)]
  rw [fieldM, hfirst, field, Nat.pow_zero, Nat.div_one]
  rfl

/-- The amount of R35 by the words of the packet. -/
theorem damageAmount_eq :
    damageAmount (packetPayload (leadWord :: head :: rest)) =
      if 2 ≤ rest.length ∧ 1 ≤ (rest.getD 0 0).toNat % 8 ∧ (rest.getD 0 0).toNat % 8 ≤ 4 then (rest.getD 0 0).toNat % 8
      else 1 := by
  rw [damageAmount, packetPayload_length hrest]
  by_cases h : 1 ≤ (loByte head).toNat
  · rw [fieldM_payload hrest h]
    exact if_congr (and_congr (by omega) Iff.rfl) rfl rfl
  · rw [if_neg fun hc => h hc.1, if_neg (by omega)]

/-- A sound packet that fails its kind's condition (R20). -/
theorem kindCondition_sound_false {g : GroupIx} {grade : Grade}
    (h : (loByte head).toNat = 0 ∨ (rest.getD 0 0).toNat % 8 = 0 ∨ 4 < (rest.getD 0 0).toNat % 8
      ∨ (loByte head).toNat ≠ 1 + 4 * gradeWords grade * ((rest.getD 0 0).toNat % 8)) :
    kindCondition (.sound g grade) (packetPayload (leadWord :: head :: rest)) = false := by
  rw [kindCondition, decide_eq_false_iff_not, packetPayload_length hrest]
  rintro ⟨hlen, hm1, hm4, heq⟩
  rw [fieldM_payload hrest hlen] at hm1 hm4 heq
  omega

/-- A wrong check word, or a kind whose condition fails (R19, R20). -/
theorem packetGood_false
    (h : ((leadWord :: head :: rest).map BitVec.toNat).sum % 65536 ≠ 0
      ∨ (0x41 ≤ (hiByte head).toNat ∧ (hiByte head).toNat ≤ 0x44
        ∧ ((loByte head).toNat = 0 ∨ (rest.getD 0 0).toNat % 8 = 0 ∨ 4 < (rest.getD 0 0).toNat % 8
          ∨ (loByte head).toNat ≠ 1 + 8 * ((rest.getD 0 0).toNat % 8)))
      ∨ (0x49 ≤ (hiByte head).toNat ∧ (hiByte head).toNat ≤ 0x4C
        ∧ ((loByte head).toNat = 0 ∨ (rest.getD 0 0).toNat % 8 = 0 ∨ 4 < (rest.getD 0 0).toNat % 8
          ∨ (loByte head).toNat ≠ 1 + 4 * ((rest.getD 0 0).toNat % 8)))
      ∨ ((hiByte head).toNat = 0x50 ∧ (loByte head).toNat ≠ 1) ∨ ((hiByte head).toNat = 0x5A ∧ (loByte head).toNat < 2)
      ∨ ((hiByte head).toNat = 0x5B ∧ (loByte head).toNat < 3)) :
    packetGood (leadWord :: head :: rest) = false := by
  have hkind : packetKind (leadWord :: head :: rest) = hiByte head := rfl
  have hlen := packetPayload_length hrest
  rw [packetGood, Bool.and_eq_false_iff, hkind]
  rcases h with hsum | ⟨hlow, hhigh, hbad⟩ | ⟨hlow, hhigh, hbad⟩ | ⟨hk, hbad⟩ | ⟨hk, hbad⟩ | ⟨hk, hbad⟩
  · exact .inl (decide_eq_false fun h => hsum ((wordSum_eq_zero_iff _).1 h))
  · right
    rw [packetClass_full (g := ⟨(hiByte head).toNat - 0x41, by omega⟩) (by simp only; omega)]
    exact kindCondition_sound_false hrest hbad
  · right
    rw [packetClass_compact (g := ⟨(hiByte head).toNat - 0x49, by omega⟩) (by simp only; omega)]
    exact kindCondition_sound_false hrest hbad
  all_goals
    right
    rw [packetClass, hk]
    simp only [kindCondition, hlen, decide_eq_false_iff_not]
    omega

end

/-- Settles O13: the damaged packet by its kind, and the line that is cut short. -/
theorem damageIsDroppedAndCounted : Obligations.DamageIsDroppedAndCounted := by
  intro n k s h
  refine ⟨?_, fun tail htail => ?_⟩
  · intro head rest hrest packet kind length m hbad amount
    have hpacket : IsPacket packet := ⟨head, rest, rfl, hrest⟩
    have hclass : packetKind packet = hiByte head := rfl
    have hamount : damageAmount (packetPayload packet) = amount := damageAmount_eq hrest
    refine ⟨_, exec_packetLine h hpacket k, ?_⟩
    rw [stripPacket_damaged (packetGood_false hrest hbad)]
    refine ⟨?_, ?_, fun i => ?_⟩
    · rw [dropDamaged_frame]
      rfl
    · rw [dropDamaged_frame]
      simp [finishLine, State.parsing, State.putLane, modifyAt_eq_set, bitNat, Lane.afterLine]
    · rw [← hamount]
      exact dropDamaged_source_kind n packet (s.parsing n) i
  · intro blanking
    have hscan : scanLine blanking = ([], true) := by
      rw [scanLine_passed (fun w hw => by rw [List.eq_of_mem_replicate hw]; decide), scanLine_cut htail]
    rw [exec_inputCarriageLine_parsed h, hscan]
    simp only [List.foldl_nil, State.parsing, finishLine_putLane]
    rfl

end Sys2Proof.Machine
end

section
/-! A good sound group packet on a line (R21 to R23, R36 to R39): O12. -/

namespace Sys2Proof.Machine

/-! ### Samples read back (R22, R23, R37) -/

/-- The value stored from a sample written in a grade: 0 when V is clear, a compact one expanded (R37). -/
def storedFrom (grade : Grade) (o : OutSample) : Sample :=
  if o.valid then
    match grade with
    | .full => o.value
    | .compact => expandSample (decide (o.value.toInt < 0)) (compactCode (scaledMagnitude o.value))
  else 0

theorem readPair_fullPair (o : OutSample) : readPair (pairHigh o.value) (pairLow o.value o.valid) = storedFrom .full o := by
  obtain ⟨hhigh, hlow⟩ : pairHigh o.value = BitVec.ofNat 16 (o.value.toNat / 256)
      ∧ pairLow o.value o.valid =
        BitVec.ofNat 16 (o.value.toNat % 256 * 256 + (if o.valid then 1 else 0)) := by
    simpa [fullPair] using fullPair_eq o
  have hv := o.value.isLt
  rw [hhigh, hlow, readPair_eq, BitVec.toNat_ofNat, BitVec.toNat_ofNat, storedFrom]
  cases o.valid with
  | false => rw [if_neg (by simp only [Bool.false_eq_true, if_false]; omega), if_neg Bool.false_ne_true]
  | true =>
    simp only [if_true]
    rw [if_pos (by omega)]
    apply BitVec.eq_of_toNat_eq
    rw [BitVec.toNat_ofNat]
    omega

theorem compactCode_le (v : Sample) : compactCode (scaledMagnitude v) ≤ 2047 := by
  have hm : scaledMagnitude v ≤ 32767 := min_le_left ..
  unfold compactCode
  split
  · omega
  split
  · omega
  split <;> omega

theorem readCompact_compactWord (o : OutSample) : readCompact (compactWord o) = storedFrom .compact o := by
  have hcode := compactCode_le o.value
  have hvalid := bitNat_le o.valid
  have hsign := bitNat_le (o.value.getLsbD 23)
  have h0 : (compactWord o).getLsbD 0 = o.valid := getLsbD_toWord (by omega) (by omega)
  have h15 : (compactWord o).getLsbD 15 = o.value.getLsbD 23 := getLsbD_toWord (by omega) (by omega)
  have hfield : field (compactWord o) 4 11 = compactCode (scaledMagnitude o.value) := by
    rw [compactWord, field_toWord (by omega)]
    omega
  have hneg : o.value.getLsbD 23 = decide (o.value.toInt < 0) := by
    rw [← BitVec.msb_eq_toInt, BitVec.msb_eq_getLsbD_last]
  rw [readCompact, h0, h15, hfield, hneg, storedFrom]

/-! ### The payload of a sound packet read back (R21) -/

section
variable (grade : Grade) {phase : Nat} (hphase : phase < 8) {instants : List Instant}

theorem soundPayload_eq (phase : Nat) (instants : List Instant) : soundPayload grade phase instants =
    attributeWord phase instants.length :: (instants.flatMap Vector.toList).flatMap (sampleWords grade) := by
  rw [soundPayload, List.flatMap_assoc]

theorem soundPayload_length (phase : Nat) (instants : List Instant) :
    (soundPayload grade phase instants).length = 1 + 4 * gradeWords grade * instants.length := by
  have hpacket := groupPacket_length 0 grade phase instants
  rw [groupPacket, buildPacket_length] at hpacket
  omega

include hphase in
theorem fieldM_soundPayload (h : instants.length ≤ 4) : fieldM (soundPayload grade phase instants) = instants.length := by
  rw [fieldM, soundPayload, List.getD_cons_zero, attributeWord, field_toWord (by omega)]
  omega

/-- Sample number 4·i + t of a sound payload is track t of instant i (R21). -/
theorem payloadSample_soundPayload {i : Nat} {x : Instant} (hx : instants[i]? = some x) (t : Fin 4) :
    payloadSample grade (soundPayload grade phase instants) (4 * i + t.val) = storedFrom grade x[t] := by
  have hsample : (instants.flatMap Vector.toList)[4 * i + t.val]? = some x[t] := by
    rw [getElem?_flatMap_pieces (w := 4) (fun _ => by simp) hx t.isLt]
    simp
  have hwords (j : Nat) (hj : j < gradeWords grade) :
      (soundPayload grade phase instants)[1 + (gradeWords grade * (4 * i + t.val) + j)]? =
        (sampleWords grade x[t])[j]? := by
    rw [soundPayload_eq, Nat.add_comm 1, List.getElem?_cons_succ,
      getElem?_flatMap_pieces (fun o => sampleWords_length grade o) hsample hj]
  have hword (j : Nat) (hj : j < gradeWords grade) :
      (soundPayload grade phase instants).getD (1 + gradeWords grade * (4 * i + t.val) + j) 0 =
        (sampleWords grade x[t]).getD j 0 := by
    rw [List.getD_eq_getElem?_getD, List.getD_eq_getElem?_getD, Nat.add_assoc, hwords j hj]
  cases grade with
  | full =>
    have h0 := hword 0 (by decide)
    have h1 := hword 1 (by decide)
    rw [payloadSample, show 2 + 2 * (4 * i + t.val) = 1 + 2 * (4 * i + t.val) + 1 by omega]
    exact (congrArg₂ readPair h0 h1).trans (readPair_fullPair _)
  | compact =>
    have h0 := hword 0 (by decide)
    rw [gradeWords, Nat.one_mul] at h0
    rw [payloadSample, ← Nat.add_zero (1 + _), h0]
    exact readCompact_compactWord _

include hphase in
/-- The samples of a track, in time order, are the track's samples of the instants (R21, R37). -/
theorem trackSamples_soundPayload (h : instants.length ≤ 4) (t : Fin 4) :
    trackSamples grade (soundPayload grade phase instants) t = instants.map fun x => storedFrom grade x[t] := by
  rw [trackSamples, fieldM_soundPayload grade hphase h]
  refine List.ext_getElem (by simp) fun i hi _ => ?_
  have hi' : i < instants.length := by simpa using hi
  rw [List.getElem_map, List.getElem_map, List.getElem_range]
  exact payloadSample_soundPayload grade (List.getElem?_eq_getElem hi') t

include hphase in
theorem packetGood_groupPacket (g : GroupIx) (h1 : 1 ≤ instants.length) (h4 : instants.length ≤ 4) :
    packetGood (buildPacket (soundKind g grade) (soundPayload grade phase instants)) = true := by
  rw [packetGood_buildPacket, packetClass_soundKind, kindCondition, fieldM_soundPayload grade hphase h4,
    soundPayload_length, decide_eq_true_eq]
  exact ⟨by omega, h1, h4, rfl⟩

end

theorem stripSound_source (n : LaneIx) (g : GroupIx) (grade : Grade) (p : List Word) (s : State) (i : SourceIx) :
    (stripSound n g grade p s).sources[i] =
      if i.val / 4 = 4 * n.val + g.val then
        appendSamples s.sources[i] (trackSamples grade (packetPayload p) ⟨i.val % 4, Nat.mod_lt _ (by decide)⟩)
      else s.sources[i] :=
  updateGroup_source n g (fun t x => appendSamples x (trackSamples grade (packetPayload p) t)) s i

/-- Settles O12: seen mark, pass list and the four sources, each by its track. -/
theorem soundPacketIsStripped : Obligations.SoundPacketIsStripped := by
  intro n g grade phase instants k s h h1 h4 packet stored
  have hstored (o : OutSample) : stored o = storedFrom grade o := rfl
  have hlen : (soundPayload grade phase.val instants).length ≤ 255 := by
    rw [soundPayload_length]
    cases grade <;> simp only [gradeWords] <;> omega
  have hstrip : stripPacket n (s.parsing n) packet = stripSound n g grade packet (s.parsing n) := by
    rw [stripPacket, if_pos (packetGood_groupPacket grade phase.isLt g h1 h4), packetKind_buildPacket,
      packetClass_soundKind]
  refine ⟨_, exec_packetLine h (buildPacket_isPacket _ hlen) k, ?_⟩
  rw [hstrip]
  refine ⟨rfl, ?_, fun i track hi => ?_, fun i hi => ?_⟩
  · simp [stripSound, enterPassList, markSeen, updateGroup, finishLine, State.parsing, State.putLane, modifyAt_eq_set,
      bitNat, Lane.afterLine, packet]
  · have htrack : (⟨i.val % 4, Nat.mod_lt _ (by decide)⟩ : Fin 4) = track := Fin.ext (by simp only; omega)
    have hsource := stripSound_source n g grade packet (s.parsing n) i
    rw [if_pos (by omega), packetPayload_buildPacket, trackSamples_soundPayload grade phase.isLt h4, htrack] at hsource
    exact hsource
  · have hsource := stripSound_source n g grade packet (s.parsing n) i
    rw [if_neg hi] at hsource
    exact hsource

end Sys2Proof.Machine
end

section
/-! A request on a line of a LOCKED lane (R42 to R44, R163): O16. -/

namespace Sys2Proof.Machine

theorem wellFormed_fits {c : Instr} {q : Request} (hq : requestOf c = some q) (hc : c.wellFormed = true) :
    q.params.length ≤ 253 := by
  cases c
  case unknownRequestKind =>
    cases hq
    simp only [Instr.wellFormed, requestFits, Bool.and_eq_true, decide_eq_true_eq] at hc
    exact hc.2
  all_goals cases hq
  all_goals exact of_decide_eq_true hc

section
variable (n : LaneIx) (q : Request) (address : Byte) (u : State)

/-- A good request on a line, by its address (R42 to R44). -/
theorem stripPacket_request :
    stripPacket n u (buildPacket 0x5A (q.payload address)) =
      if address.toNat = u.straps.unitAddress.toNat then
        takeRequest (laneScope n) (BitVec.ofNat 8 q.kind) q.tag q.params u
      else if address.toNat = 255 then
        enterPassList n none (buildPacket 0x5A (q.payload address))
          (takeRequest (laneScope n) (BitVec.ofNat 8 q.kind) q.tag q.params u)
      else enterPassList n none (buildPacket 0x5A (q.payload address)) u := by
  have hgood : packetGood (buildPacket 0x5A (q.payload address)) = true := by
    rw [packetGood_buildPacket]
    exact decide_eq_true (Nat.le_add_left 2 q.params.length)
  have hkind : packetClass (packetKind (buildPacket 0x5A (q.payload address))) = .request := by
    rw [packetKind_buildPacket]
    rfl
  rw [stripPacket, if_pos hgood, hkind]
  simp only [stripRequest, packetPayload_buildPacket, handOver_payload, toThisUnit_iff, isBroadcast_iff, payload_address]

/-- A request leaves the pass list in progress empty. -/
theorem takeRequest_passProgress (i : Iface) (kind : Byte) (tag : Word) (params : List Word)
    (h : (u.lanes[n]).passProgress = []) : ((takeRequest i kind tag params u).lanes[n]).passProgress = [] :=
  (takeRequest_steady (busy := none) u i kind tag params).pass n (by simp) h

variable {u}

/-- The end of a line that entered nothing in the pass list (R31). -/
theorem finishLine_of_empty (h : (u.lanes[n]).passProgress = []) (j : Nat) (blanking : List Word) :
    finishLine n j blanking false u =
      u.putLane n { u.lanes[n] with awaiting := some { line := j, blanking := blanking, passList := [] } } := by
  rw [finishLine_whole, h, ← h]

/-- The end of a line that entered one packet (R31, R45). -/
theorem finishLine_enterPassList (h : (u.lanes[n]).passProgress = []) (j : Nat) (blanking p : List Word) :
    finishLine n j blanking false (enterPassList n none p u) =
      u.putLane n { u.lanes[n] with
        awaiting := some { line := j, blanking := blanking, passList := [{ group := none, words := p }] } } := by
  have henter := enterPassList_putLane n none p u u.lanes[n]
  rw [State.putLane_self, h, List.nil_append] at henter
  rw [henter, finishLine_whole, State.putLane_putLane, State.putLane_lane, ← h]

end

/-- A line of one request, of any kind, by its address (R42 to R44, R163). -/
theorem exec_requestLine {n : LaneIx} {s : State} (h : s.takesLine n) (address : Byte) (k : Nat) {c : Instr} {q : Request}
    (hq : requestOf c = some q) (hc : c.wellFormed = true) (hi : q.iface = laneScope n) :
    let packet := buildPacket 0x5A (q.payload address)
    let blanking := packetLine packet k
    let toUnit := decide (address.toNat = s.straps.unitAddress.toNat)
    let toAll := decide (address.toNat = 255)
    let carried : List PassEntry := [{ group := none, words := packet }]
    ((toUnit || toAll) = true → ∃ u : State, exec c (s.parsing n) = .next u
        ∧ exec (.inputCarriageLine n blanking) s = .next (u.putLane n { u.lanes[n] with
            awaiting := some {
              line := (s.lanes[n]).lineCount, blanking := blanking, passList := if toUnit then [] else carried } }))
      ∧ ((toUnit || toAll) = false → exec (.inputCarriageLine n blanking) s =
        .next (s.putLane n ((s.lanes[n]).afterLine blanking carried))) := by
  intro packet blanking toUnit toAll carried
  have hfits := wellFormed_fits hq hc
  have hpacket : IsPacket packet := buildPacket_isPacket _ (by simp only [Request.payload, List.length_cons]; omega)
  rw [exec_packetLine h hpacket k, stripPacket_request]
  have hpass := takeRequest_passProgress n (s.parsing n) (laneScope n) (BitVec.ofNat 8 q.kind) q.tag q.params
    (by rw [State.parsing, State.putLane_lane])
  have hexec := exec_request (s := s.parsing n) h.1 hq hc
  rw [hi] at hexec
  rw [show (s.parsing n).straps = s.straps from rfl]
  refine ⟨fun hours => ⟨_, hexec, ?_⟩, fun hother => ?_⟩
  · by_cases hu : address.toNat = s.straps.unitAddress.toNat
    · rw [if_pos hu, finishLine_of_empty n hpass]
      simp only [toUnit, hu, decide_true, if_true]
      rfl
    · have ha : address.toNat = 255 := by simpa [toUnit, toAll, hu] using hours
      rw [if_neg hu, if_pos ha, finishLine_enterPassList n hpass]
      simp only [toUnit, hu, decide_false, Bool.false_eq_true, if_false]
      rfl
  · simp only [toUnit, toAll, Bool.or_eq_false_iff, decide_eq_false_iff_not] at hother
    rw [if_neg hother.1, if_neg hother.2]
    simp only [State.parsing, enterPassList_putLane, finishLine_whole, State.putLane_putLane, State.putLane_lane]
    rfl

theorem State.answer_putLane (s : State) (n : LaneIx) (l : Lane) (i : Iface) (status : Nat) (tag : Word) (kind : Nat)
    (data : List Word) :
    (s.putLane n l).answer i status tag kind data = (s.answer i status tag kind data).putLane n l := rfl

/-- Settles O16: READ DEVICE as the request whose answer is known. -/
theorem requestOnLineIsSorted : Obligations.RequestOnLineIsSorted := by
  intro n address k s h toUnit toAll l
  refine ⟨fun tag hroom => ?_, fun c q hq hc hi => exec_requestLine h address k hq hc hi⟩
  intro packet blanking answered
  obtain ⟨hours, hother⟩ := exec_requestLine h address k (c := .readDevice (laneScope n) tag [])
    (q := ⟨laneScope n, 0x08, tag, []⟩) rfl rfl rfl
  have hpayload : Request.payload ⟨laneScope n, 0x08, tag, []⟩ address = [bytes 0x08 address, tag] := by
    rw [bytes_eq_ofNat]
    rfl
  rw [hpayload] at hours hother
  by_cases hto : (toUnit || toAll) = true
  · obtain ⟨u, hu, hline⟩ := hours hto
    rw [exec_readDevice (s := s.parsing n) h.1 hroom] at hu
    obtain rfl := Host.Outcome.next.inj hu
    simp only [answered, if_pos hto]
    rw [hline]
    rw [State.parsing, State.answer_putLane, State.putLane_putLane, State.putLane_lane]
    rfl
  · simp only [answered, if_neg hto]
    rw [hother (Bool.eq_false_iff.2 hto)]
    have hnot : toUnit = false := (Bool.or_eq_false_iff.1 (Bool.eq_false_iff.2 hto)).1
    simp only [hnot]
    rfl

end Sys2Proof.Machine
end

section
/-! The frame mark of line 0 on a lane that embeds nothing (R24, R110, R144): O23. -/

namespace Sys2Proof.Machine

theorem Lane.embedsNothing_iff (l : Lane) : l.embedsNothing ↔ ∀ g : GroupIx, embeds l.plan.modes[g] = false := by
  refine forall_congr' fun g => ?_
  cases l.plan.modes[g] <;> simp [embeds]

/-- A lane that embeds nothing reads nothing (R108). -/
theorem lineReads_embedsNothing {n : LaneIx} {s : State} (h : (s.lanes[n]).embedsNothing)
    (hq : ∀ g : GroupIx, ((s.lanes[n]).queues[g]).length ≤ 8) (count : Nat) : lineReads n count s = s := by
  rw [Lane.embedsNothing_iff] at h
  have hreads (g : GroupIx) : groupReads s.lanes[n] g = false := by rw [groupReads, h g, Bool.and_false]
  have hgain (g : GroupIx) : overrunOf (s.lanes[n]).queues[g] [] = 0 := Nat.sub_eq_zero_of_le (hq g)
  have hdests : (updateAll s.dests fun _ r => r) = s.dests := vector_ext_fin fun d => updateAll_getElem_fin ..
  have hqueues : (updateAll (s.lanes[n]).queues fun _ q => gainInstants q []) = (s.lanes[n]).queues := by
    refine vector_ext_fin fun g => ?_
    rw [updateAll_getElem_fin, gainInstants, hgain, List.append_nil, List.drop_zero]
  have hoverrun : (updateAll (s.lanes[n]).counters.overrun fun g c => raise c (overrunOf (s.lanes[n]).queues[g] [])) =
      (s.lanes[n]).counters.overrun := by
    refine vector_ext_fin fun g => ?_
    rw [updateAll_getElem_fin, hgain, raise_zero]
  simp only [lineReads, hreads, Bool.and_false, Bool.false_eq_true, if_false, State.modifyLane_eq_putLane,
    State.updateDests, hdests, hqueues, hoverrun]
  exact State.putLane_self s n

theorem placedGroups_embedsNothing {n : LaneIx} {s : State} (h : (s.lanes[n]).embedsNothing) (a : AwaitingBuild) :
    placedGroups n a s =
      ((s.lanes[n]).queues, placeMark s.ref n a.line ⟨budgetInForce s.lanes[n], []⟩) := by
  rw [Lane.embedsNothing_iff] at h
  have hturn (phase : Nat) (acc : Vector (List Instant) 4 × LineFill) (g : GroupIx) :
      placeGroup (s.lanes[n]).plan phase acc g = acc := by
    simp only [placeGroup, h g, Bool.false_eq_true, false_and, if_false]
  simp only [placedGroups, placeGroups, roundOrder, List.foldl_cons, List.foldl_nil, hturn]

/-- The low class without an entry and without a reply (R113, R114). -/
theorem lowClass_nothing {n : LaneIx} {replies : List Reply} (h : oldestReply (laneScope n) replies = none) (l : Lane)
    (f : LineFill) : lowClass n l [] replies f = ⟨f, replies, 0⟩ := by
  cases ht : l.replyTurn <;> simp only [lowClass, ht, offerReply, h, offerEntries]

/-- Settles O23: the mark that is due, alone on the line. -/
theorem markIsPlacedOnLineZero : Obligations.MarkIsPlacedOnLineZero := by
  intro n f a s hb hline hnothing hq hentries hreplies hbudget built mark
  have hnone : oldestReply (laneScope n) s.replies = none := by
    rw [oldestReply_lane, List.find?_eq_none]
    intro r hr
    simpa using hreplies r hr
  have hlow : placedLow n a s = ⟨placeMark s.ref n 0 ⟨(s.lanes[n]).budgetOn f, []⟩, s.replies, 0⟩ := by
    rw [placedLow, hentries, placedGroups_embedsNothing hnothing, lowClass_nothing hnone, hline,
      budgetInForce_eq hb.2.2.1]
  have hmark := placeMark_holds hbudget s.ref n 0
  rw [if_pos rfl, markDue_eq, funext markPacket_eq] at hmark
  have hbuilt : exec (.outputLineBuild n) s = .next (built
      ((if s.ref.role = .leader then (if inSet s.ref.markOut n then some s.ref.count else none)
        else s.ref.pendingMark[n]).elim [] mark) (clearPlacedMark n 0 s.ref)) := by
    rw [exec_outputLineBuild_builds hb, lineReads_embedsNothing hnothing hq, placeLine_eq, hnone, hlow,
      placedGroups_embedsNothing hnothing, finishBuild_eq hmark, hline]
    rfl
  rw [hbuilt, clearPlacedMark_eq]
  refine ⟨fun hrole => ?_, fun hrole => ?_⟩
  · have hnot : ¬ (0 = 0 ∧ s.ref.role = .follower) := by rw [hrole]; exact fun h => nomatch h.2
    rw [if_pos hrole, if_neg hnot]
    split <;> rfl
  · have hnot : ¬ s.ref.role = .leader := by rw [hrole]; exact fun h => nomatch h
    rw [if_neg hnot, if_pos ⟨rfl, hrole⟩]
    cases s.ref.pendingMark[n] <;> rfl

end Sys2Proof.Machine
end

section
/-! What requests and packets neither read nor change of a lane: line count, open frame, pass lists (R31, R45). -/

namespace Sys2Proof.Machine

/-! ### A change of what is not read -/

/-- A change of what no request and no packet of a line reads or changes: the power-on reset flag, and of each lane the line
count, the open frame, the line awaiting build, and what stands before the entries of its pass list in progress. -/
structure Unread where
  held : Bool → Bool
  count : LaneIx → Nat → Nat
  opened : LaneIx → Bool → Bool
  awaiting : LaneIx → Option AwaitingBuild → Option AwaitingBuild
  entries : LaneIx → List PassEntry

/-- A lane with what is not read of it changed. -/
def Lane.recast (l : Lane) (c : Unread) (n : LaneIx) : Lane :=
  { l with
    lineCount := c.count n l.lineCount
    frameOpen := c.opened n l.frameOpen
    awaiting := c.awaiting n l.awaiting
    passProgress := c.entries n ++ l.passProgress }

/-- The state with what is not read of it changed. -/
def State.recast (s : State) (c : Unread) : State :=
  { s with
    resetHeld := c.held s.resetHeld
    lanes := updateAll s.lanes fun n l => l.recast c n }

/-- An operation that neither reads nor changes what is not read. -/
def Blind (op : State → State) : Prop :=
  ∀ (c : Unread) (s : State), op (s.recast c) = (op s).recast c

theorem State.recast_lane (s : State) (c : Unread) (n : LaneIx) : (s.recast c).lanes[n] = (s.lanes[n]).recast c n :=
  updateAll_getElem_fin ..

@[simp] theorem State.recast_entries (s : State) (c : Unread) : (s.recast c).entries = s.entries := rfl

@[simp] theorem State.recast_ports (s : State) (c : Unread) : (s.recast c).ports = s.ports := rfl

@[simp] theorem State.recast_ref (s : State) (c : Unread) : (s.recast c).ref = s.ref := rfl

@[simp] theorem State.recast_take (s : State) (c : Unread) : (s.recast c).take = s.take := rfl

@[simp] theorem State.recast_undo (s : State) (c : Unread) : (s.recast c).undo = s.undo := rfl

theorem Blind.comp {f g : State → State} (hf : Blind f) (hg : Blind g) : Blind fun s => f (g s) := by
  intro c s
  change f (g (s.recast c)) = (f (g s)).recast c
  rw [hg, hf]

theorem Blind.ite {p : State → Prop} [DecidablePred p] {f g : State → State} (hp : ∀ c s, p (s.recast c) ↔ p s)
    (hf : Blind f) (hg : Blind g) : Blind fun s => if p s then f s else g s := by
  intro c s
  change (if p (s.recast c) then f (s.recast c) else g (s.recast c)) = (if p s then f s else g s).recast c
  by_cases h : p s
  · rw [if_pos h, if_pos ((hp c s).2 h), hf]
  · rw [if_neg h, if_neg fun e => h ((hp c s).1 e), hg]

section
variable (c : Unread) (s : State)

/-- A change of one lane that keeps what is not read. -/
theorem State.recast_modifyLane (n : LaneIx) {f : Lane → Lane} (hf : ∀ l : Lane, f (l.recast c n) = (f l).recast c n) :
    (s.recast c).modifyLane n f = (s.modifyLane n f).recast c := by
  have hlanes : ((s.recast c).modifyLane n f).lanes = ((s.modifyLane n f).recast c).lanes := by
    refine vector_ext_fin fun m => ?_
    rw [State.recast_lane, State.modifyLane_lanes, State.modifyLane_lanes, modifyAt_getElem, modifyAt_getElem]
    by_cases h : n = m
    · subst h
      rw [if_pos rfl, if_pos rfl, State.recast_lane, hf]
    · rw [if_neg h, if_neg h, State.recast_lane]
  exact congrArg (fun v => { s with resetHeld := c.held s.resetHeld, lanes := v }) hlanes

/-- A change of every lane that keeps what is not read. -/
theorem State.recast_updateLanes {f : LaneIx → Lane → Lane} (hf : ∀ n l, f n (l.recast c n) = (f n l).recast c n) :
    updateAll (s.recast c).lanes f = ((s.updateLanes f).recast c).lanes := by
  refine vector_ext_fin fun n => ?_
  rw [State.recast_lane, State.updateLanes_lanes, updateAll_getElem_fin, updateAll_getElem_fin, State.recast_lane, hf]

end

/-! ### Requests and settings -/

theorem withRoom_blind {act : State → State} (h : Blind act) : Blind fun s => withRoom s act :=
  Blind.ite (p := fun s => s.replies.length < 8) (fun _ _ => Iff.rfl) h fun _ _ => rfl

theorem queueReply_blind (i : Iface) (status : Status) (tag : Word) (kind : Byte) (data : List Word) :
    Blind (queueReply i status tag kind data) := fun _ _ => rfl

theorem refuse_blind (i : Iface) (tag : Word) (kind : Byte) : Blind (refuse i tag kind) := fun _ _ => rfl

theorem withIndex_blind {n : Nat} {i : Iface} {tag : Word} {kind : Byte} {params : List Word}
    {act : Fin n → State → State} (h : ∀ k, Blind (act k)) :
    Blind fun s => withIndex n i tag kind params s act := by
  refine withRoom_blind fun c s => ?_
  split
  · split
    · exact h _ c s
    · rfl
  · rfl

theorem withoutParams_blind {i : Iface} {tag : Word} {kind : Byte} {params : List Word} {act : State → State}
    (h : Blind act) : Blind fun s => withoutParams i tag kind params s act := by
  refine withRoom_blind fun c s => ?_
  split
  · exact h c s
  · rfl

theorem readLane_blind (i : Iface) (tag : Word) (params : List Word) : Blind (readLane i tag params) := by
  refine withIndex_blind fun n c s => ?_
  rw [State.recast_lane]
  rfl

theorem referenceData_recast (c : Unread) (s : State) : referenceData (s.recast c) = referenceData s := by
  have hphase (n : LaneIx) : phaseField (s.recast c).lanes[n] (s.recast c).ref.phase[n] =
      phaseField s.lanes[n] s.ref.phase[n] := by
    rw [State.recast_lane]
    rfl
  simp only [referenceData, hphase]
  rfl

theorem readReference_blind (i : Iface) (tag : Word) (params : List Word) : Blind (readReference i tag params) := by
  refine withoutParams_blind fun c s => ?_
  rw [referenceData_recast]
  rfl

theorem setSource_blind (i : Iface) (tag : Word) (params : List Word) : Blind (setSource i tag params) := by
  refine withRoom_blind fun c s => ?_
  split
  · split <;> rfl
  · rfl

theorem rcEvent_blind (f : Option Format) : Blind (rcEvent f) := by
  intro c s
  have hflags : (rcEvent f (s.recast c)).ref.realign = (rcEvent f s).ref.realign := by
    refine vector_ext_fin fun n => ?_
    simp only [rcEvent, State.modifyRef_ref, updateAll_getElem_fin, State.recast_lane]
    rfl
  exact congrArg (fun v => { s.recast c with ref := { s.ref with realign := v } }) hflags

theorem setReference_blind (i : Iface) (tag : Word) (params : List Word) : Blind (setReference i tag params) := by
  refine withRoom_blind fun c s => ?_
  split
  · rfl
  next reference marks preset =>
    split
    next k _ =>
      have hpreset := rcEvent_blind none c ((applySettings reference marks s).modifyRef fun r => { r with count := k })
      exact congrArg (queueReply i .done tag 0x11 []) hpreset
    · rfl
  · rfl

theorem setReceive_blind (p : PortIx) (enable : Bool) : Blind (setReceive p enable) :=
  Blind.ite (p := fun _ => enable = true) (fun _ _ => Iff.rfl) (fun _ _ => rfl)
    (Blind.ite (p := fun s => (s.ports[p]).receiveEnable = true) (fun _ _ => Iff.rfl) (fun _ _ => rfl) fun _ _ => rfl)

theorem setTransmit_blind (p : PortIx) (enable : Bool) : Blind (setTransmit p enable) := by
  intro c s
  cases enable <;> cases h : (s.ports[p]).transmit <;> simp only [setTransmit, State.recast_ports, h] <;> rfl

theorem setPort_blind (i : Iface) (tag : Word) (params : List Word) : Blind (setPort i tag params) := by
  refine withRoom_blind fun c s => ?_
  split
  · split
    next p _ =>
      exact congrArg (queueReply i .done tag 0x12 []) (((setTransmit_blind p _).comp (setReceive_blind p _)) c s)
    · rfl
  · rfl

theorem zeroCounters_blind : Blind zeroCounters := by
  intro c s
  have hlanes := s.recast_updateLanes c (f := fun _ l => { l with counters := .zero }) fun _ _ => rfl
  exact congrArg (fun v => { zeroCounters s with resetHeld := c.held s.resetHeld, lanes := v }) hlanes

theorem resetBlocks_blind : Blind resetBlocks := by
  intro c s
  have hlanes := s.recast_updateLanes c (f := fun _ l => resetLane l) fun _ _ => rfl
  exact congrArg (fun v => { resetBlocks s with resetHeld := c.held s.resetHeld, lanes := v }) hlanes

/-! ### Takes (R150 to R161) -/

theorem openTake_blind (i : Iface) (tag : Word) (params : List Word) : Blind (openTake i tag params) := by
  refine withIndex_blind fun k c s => ?_
  rw [State.recast_take]
  split <;> rfl

theorem routeRequest_blind (i : Iface) (tag dest flags codes gain delay : Word) (candidates : List Word) :
    Blind (routeRequest i tag dest flags codes gain delay candidates) := by
  intro c s
  have hown : ownTake i (s.recast c) = ownTake i s := rfl
  unfold routeRequest
  rw [hown]
  split
  · rfl
  · split <;> rfl

theorem setRoute_blind (i : Iface) (tag : Word) (params : List Word) : Blind (setRoute i tag params) := by
  refine withRoom_blind fun c s => ?_
  split
  · split
    · exact routeRequest_blind i tag _ _ _ _ _ _ c s
    · rfl
  · rfl

theorem setPlan_blind (i : Iface) (tag : Word) (params : List Word) : Blind (setPlan i tag params) := by
  refine withRoom_blind fun c s => ?_
  have hown : ownTake i (s.recast c) = ownTake i s := rfl
  split
  · split
    · rfl
    · rw [hown]
      split
      · rfl
      · split <;> rfl
  · rfl

theorem abandonTake_blind (i : Iface) (tag : Word) (params : List Word) : Blind (abandonTake i tag params) := by
  refine withoutParams_blind fun c s => ?_
  have hown : ownTake i (s.recast c) = ownTake i s := rfl
  rw [hown]
  split <;> rfl

end Sys2Proof.Machine
end

section
/-! The application of a take and every request, blind to what is not read of a lane (R45, R155 to R163). -/

namespace Sys2Proof.Machine

section
variable (c : Unread) (s : State)

theorem outputRuns_recast (d : DestIx) : outputRuns (s.recast c) d = outputRuns s d := by
  unfold outputRuns
  split
  · rw [State.recast_lane]
    rfl
  · rfl

theorem scopePlan_recast (scope : Iface) : scopePlan (s.recast c) scope = scopePlan s scope := by
  unfold scopePlan
  split
  · rw [State.recast_lane]
    rfl
  · rfl

theorem ownerHears_recast (lost : Option LaneIx) (owner : Iface) :
    ownerHears lost owner (s.recast c) = ownerHears lost owner s := by
  unfold ownerHears
  split
  · rw [State.recast_lane]
    rfl
  · rfl

theorem clockUnder_recast (source : Clock) : clockUnder (s.recast c) source = clockUnder s source := by
  unfold clockUnder
  split
  · rfl
  · rw [State.recast_lane]
    rfl

theorem isFallback_recast (inUse source : Clock) : isFallback (s.recast c) inUse source = isFallback s inUse source := by
  rw [isFallback, clockUnder_recast, isFallback]

theorem replacePortPlan_recast (new : PortPlan) : replacePortPlan (s.recast c) new = replacePortPlan s new := by
  funext x
  simp only [replacePortPlan, clockUnder_recast, isFallback_recast]

end

theorem pushUndo_blind (t : Take) : Blind (pushUndo t) := by
  refine Blind.ite (p := fun _ => _) (fun _ _ => Iff.rfl) (fun c s => ?_) fun _ _ => rfl
  have hrecord : undoRecord (s.recast c) t = undoRecord s t := by
    simp only [undoRecord, scopePlan_recast, State.recast_entries]
  rw [hrecord]
  rfl

theorem replacePlan_blind (t : Take) : Blind (replacePlan t) := by
  intro c s
  unfold replacePlan
  split
  · exact s.recast_modifyLane c _ fun _ => rfl
  · rw [replacePortPlan_recast]
    rfl
  · rfl

theorem setGroups_blind (n : LaneIx) (runs : GroupIx → Bool) : Blind (setGroups n runs) :=
  fun c s => (stopDests _ s).recast_modifyLane c n fun _ => rfl

theorem setChannels_blind (p : PortIx) (runs : ChanIx → Bool) : Blind (setChannels p runs) := fun _ _ => rfl

theorem settleScope_blind (scope : Iface) : Blind (settleScope scope) := by
  intro c s
  unfold settleScope
  split
  · rw [settleLane, settleLane, State.recast_lane]
    exact setGroups_blind _ _ c s
  · exact setChannels_blind _ _ c s

theorem replaceEntries_blind (latches : List (DestIx × RouteEntry)) : Blind (replaceEntries latches) := by
  intro c s
  simp only [replaceEntries, outputRuns_recast]
  rfl

theorem replyApplied_blind (lost : Option LaneIx) (t : Take) : Blind (replyApplied lost t) := by
  refine Blind.ite (p := fun s => ownerHears lost t.owner s ∧ s.replies.length < 8) (fun c s => ?_) (fun _ _ => rfl)
    fun _ _ => rfl
  rw [ownerHears_recast]
  rfl

theorem applyTake_blind (lost : Option LaneIx) (t : Take) : Blind (applyTake lost t) := by
  have hclear : Blind fun s => { s with take := none } := fun _ _ => rfl
  exact (replyApplied_blind lost t).comp <| hclear.comp <| (replaceEntries_blind t.latches).comp <|
    (settleScope_blind t.scope).comp <| (replacePlan_blind t).comp (pushUndo_blind t)

theorem applyIfIdle_blind (t : Take) : Blind (applyIfIdle t) := by
  intro c s
  unfold applyIfIdle
  split
  next n _ =>
    refine Blind.ite (p := fun s => s.lanes[n].inputState = .locked) (f := id) (fun c s => ?_) (fun _ _ => rfl)
      (applyTake_blind none t) c s
    rw [State.recast_lane]
    rfl
  · rfl

theorem commitTake_blind (i : Iface) (tag : Word) (params : List Word) : Blind (commitTake i tag params) := by
  refine withoutParams_blind fun c s => ?_
  have hown : ownTake i (s.recast c) = ownTake i s := rfl
  rw [hown]
  split
  · rfl
  next t _ => exact applyIfIdle_blind (committed t tag) c { s with take := some (committed t tag) }

theorem undoTake_blind (i : Iface) (tag : Word) (params : List Word) : Blind (undoTake i tag params) := by
  refine withIndex_blind fun scope c s => ?_
  rw [State.recast_take, State.recast_undo]
  split
  · rfl
  · split
    · rfl
    next record rest _ =>
      exact applyIfIdle_blind (undoneTake i scope tag record) c
        { s with take := some (undoneTake i scope tag record), undo := modifyAt s.undo scope fun _ => rest }

/-- No request of any kind reads or changes what is not read of a lane. -/
theorem takeRequest_blind (i : Iface) (kind : Byte) (tag : Word) (params : List Word) :
    Blind (takeRequest i kind tag params) := by
  intro c s
  unfold takeRequest
  split
  · exact withIndex_blind (fun _ _ _ => rfl) c s
  · exact withIndex_blind (fun _ _ _ => rfl) c s
  · exact withIndex_blind (fun _ _ _ => rfl) c s
  · exact readLane_blind i tag params c s
  · exact withIndex_blind (fun _ _ _ => rfl) c s
  · exact readReference_blind i tag params c s
  · exact withoutParams_blind (fun _ _ => rfl) c s
  · exact withoutParams_blind (fun _ _ => rfl) c s
  · exact setSource_blind i tag params c s
  · exact setReference_blind i tag params c s
  · exact setPort_blind i tag params c s
  · exact withoutParams_blind ((queueReply_blind i .done tag 0x18 []).comp zeroCounters_blind) c s
  · exact withoutParams_blind ((queueReply_blind i .done tag 0x19 []).comp resetBlocks_blind) c s
  · exact openTake_blind i tag params c s
  · exact setRoute_blind i tag params c s
  · exact setPlan_blind i tag params c s
  · exact commitTake_blind i tag params c s
  · exact abandonTake_blind i tag params c s
  · exact undoTake_blind i tag params c s
  · exact withRoom_blind (refuse_blind i tag kind) c s

theorem handOver_blind (i : Iface) (payload : List Word) : Blind (handOver i payload) := by
  intro c s
  unfold handOver
  split
  · exact takeRequest_blind i _ _ _ c s
  · rfl

end Sys2Proof.Machine
end

section
/-! Lines of several packets (R18, R31, R33, R45): the packets of a line, blind to what is not read of a lane. O11. -/

namespace Sys2Proof.Machine

/-! ### Packets -/

theorem updateGroup_blind (n : LaneIx) (g : GroupIx) (f : Fin 4 → Source → Source) : Blind (updateGroup n g f) :=
  fun _ _ => rfl

theorem markSeen_blind (n : LaneIx) (g : GroupIx) : Blind (markSeen n g) :=
  fun c s => s.recast_modifyLane c n fun _ => rfl

theorem enterPassList_blind (n : LaneIx) (group : Option GroupIx) (p : List Word) : Blind (enterPassList n group p) := by
  refine fun c s => s.recast_modifyLane c n fun l => ?_
  simp only [Lane.recast, List.append_assoc]

theorem dropDamaged_blind (n : LaneIx) (p : List Word) : Blind (dropDamaged n p) := by
  intro c s
  have hcount := s.recast_modifyLane c n
    (f := fun l => { l with counters := { l.counters with damaged := raise l.counters.damaged 1 } }) fun _ => rfl
  simp only [dropDamaged, hcount]
  split
  · exact updateGroup_blind _ _ _ c _
  · rfl

theorem stripSound_blind (n : LaneIx) (g : GroupIx) (grade : Grade) (p : List Word) : Blind (stripSound n g grade p) :=
  (enterPassList_blind n (some g) p).comp <| (markSeen_blind n g).comp (updateGroup_blind n g _)

theorem propagate_blind (a : LaneIx) (k : Fin 60000) : Blind (propagate a k) := by
  intro c s
  have hlocked (n : LaneIx) : ((s.recast c).lanes[n]).inputState = (s.lanes[n]).inputState := by
    rw [State.recast_lane]
    rfl
  simp only [propagate, hlocked]
  rfl

theorem followMark_blind (a : LaneIx) (k : Fin 60000) : Blind (followMark a k) := by
  intro c s
  have hformat : ((s.recast c).lanes[a]).format = (s.lanes[a]).format := by
    rw [State.recast_lane]
    rfl
  unfold followMark
  rw [hformat, State.recast_ref]
  split
  · exact ((propagate_blind a k).comp (rcEvent_blind _)) c
      (s.modifyRef fun r => { r with count := k, inStep := raise r.inStep 1 })
  · exact rcEvent_blind _ c (s.modifyRef fun r => { r with count := k, jumps := raise r.jumps 1 })

theorem takeMark_blind (a : LaneIx) (count : Word) : Blind (takeMark a count) := by
  intro c s
  unfold takeMark
  split
  · exact Blind.ite (p := fun s => s.ref.role = .follower ∧ inSet s.ref.markIn a) (fun _ _ => Iff.rfl)
      (g := fun s => s.modifyRef fun r => { r with ignored := raise r.ignored 1 }) (followMark_blind a _)
      (fun _ _ => rfl) c s
  · rfl

theorem stripMark_blind (n : LaneIx) (p : List Word) : Blind (stripMark n p) :=
  Blind.ite (p := fun s => inSet s.ref.markIn n ∨ inSet s.ref.markOut n) (fun _ _ => Iff.rfl) (takeMark_blind n _)
    (enterPassList_blind n none p)

theorem stripRequest_blind (n : LaneIx) (p : List Word) : Blind (stripRequest n p) := by
  have hbroadcast : Blind fun s => if isBroadcast (packetPayload p) then
      enterPassList n none p (handOver (laneScope n) (packetPayload p) s) else enterPassList n none p s :=
    Blind.ite (fun _ _ => Iff.rfl) ((enterPassList_blind n none p).comp (handOver_blind _ _)) (enterPassList_blind n none p)
  exact Blind.ite (p := fun s => toThisUnit s (packetPayload p)) (fun _ _ => Iff.rfl) (handOver_blind _ _) hbroadcast

/-- No packet of a line reads or changes what is not read of a lane. -/
theorem stripPacket_blind (n : LaneIx) (p : List Word) : Blind fun s => stripPacket n s p := by
  intro c s
  simp only [stripPacket]
  split
  · split
    · exact stripSound_blind n _ _ p c s
    · exact stripMark_blind n p c s
    · exact stripRequest_blind n p c s
    · exact enterPassList_blind n none p c s
    · exact enterPassList_blind n none p c s
  · exact dropDamaged_blind n p c s

theorem stripPackets_blind (n : LaneIx) (ps : List (List Word)) : Blind fun s => ps.foldl (stripPacket n) s := by
  intro c s
  induction ps generalizing s with
  | nil => rfl
  | cons p ps ih => exact (congrArg (ps.foldl (stripPacket n)) (stripPacket_blind n p c s)).trans (ih _)

/-! ### What the blind leave unchanged -/

/-- The unread of a state, set to its own values. -/
def State.ownUnread (s : State) : Unread where
  held := fun _ => s.resetHeld
  count := fun n _ => (s.lanes[n]).lineCount
  opened := fun n _ => (s.lanes[n]).frameOpen
  awaiting := fun n _ => (s.lanes[n]).awaiting
  entries := fun _ => []

theorem State.recast_ownUnread (s : State) : s.recast s.ownUnread = s := by
  have hlanes : (s.recast s.ownUnread).lanes = s.lanes :=
    vector_ext_fin fun n => (s.recast_lane s.ownUnread n).trans rfl
  exact congrArg (fun v => { s with lanes := v }) hlanes

theorem Blind.own {op : State → State} (h : Blind op) (s : State) : (op s).recast s.ownUnread = op s := by
  rw [← h, State.recast_ownUnread]

theorem Blind.resetHeld {op : State → State} (h : Blind op) (s : State) : (op s).resetHeld = s.resetHeld :=
  (congrArg State.resetHeld (h.own s)).symm

section
variable {op : State → State} (h : Blind op) (s : State) (n : LaneIx)
include h

theorem Blind.lane_own : (op s).lanes[n] = ((op s).lanes[n]).recast s.ownUnread n := by
  rw [← State.recast_lane, h.own]

theorem Blind.lineCount : ((op s).lanes[n]).lineCount = (s.lanes[n]).lineCount :=
  (congrArg Lane.lineCount (h.lane_own s n)).trans rfl

theorem Blind.frameOpen : ((op s).lanes[n]).frameOpen = (s.lanes[n]).frameOpen :=
  (congrArg Lane.frameOpen (h.lane_own s n)).trans rfl

theorem Blind.awaiting : ((op s).lanes[n]).awaiting = (s.lanes[n]).awaiting :=
  (congrArg Lane.awaiting (h.lane_own s n)).trans rfl

end

/-- A change of what stands before one lane's pass list in progress. -/
def Unread.before (n : LaneIx) (entries : List PassEntry) : Unread where
  held := id
  count := fun _ => id
  opened := fun _ => id
  awaiting := fun _ => id
  entries := fun m => if m = n then entries else []

theorem State.recast_before (s : State) (n : LaneIx) (entries : List PassEntry) :
    s.recast (Unread.before n entries) =
      s.putLane n { s.lanes[n] with passProgress := entries ++ (s.lanes[n]).passProgress } := by
  rw [← State.modifyLane_eq_putLane s n fun l => { l with passProgress := entries ++ l.passProgress }]
  refine congrArg (fun v => { s with lanes := v }) (vector_ext_fin fun m => ?_)
  rw [updateAll_getElem_fin, modifyAt_getElem, Lane.recast]
  by_cases hm : n = m
  · subst hm
    rw [if_pos rfl]
    exact congrArg (fun e => { s.lanes[n] with passProgress := e ++ (s.lanes[n]).passProgress }) (if_pos rfl)
  · rw [if_neg hm]
    exact congrArg (fun e => { s.lanes[m] with passProgress := e ++ (s.lanes[m]).passProgress }) (if_neg (Ne.symm hm))

/-- A line's packets after others: the pass list of the earlier ones stands before theirs. -/
theorem stripPackets_putLane (n : LaneIx) (ps : List (List Word)) (s : State) (entries : List PassEntry)
    (hempty : (s.lanes[n]).passProgress = []) :
    ps.foldl (stripPacket n) (s.putLane n { s.lanes[n] with passProgress := entries }) =
      (ps.foldl (stripPacket n) s).recast (Unread.before n entries) := by
  have h := stripPackets_blind n ps (Unread.before n entries) s
  rw [State.recast_before, hempty, List.append_nil] at h
  exact h

/-! ### Lines of several packets -/

/-- The end of a line by the lane's pass list in progress (R31). -/
theorem finishLine_eq (n : LaneIx) (j : Nat) (blanking : List Word) (malformed : Bool) (u : State) :
    finishLine n j blanking malformed u =
      u.putLane n { u.lanes[n] with
        counters := { (u.lanes[n]).counters with
          malformed := raise (u.lanes[n]).counters.malformed (bitNat malformed) }
        awaiting := some { line := j, blanking := blanking, passList := (u.lanes[n]).passProgress }
        passProgress := [] } := by
  have h := finishLine_putLane n j blanking malformed u u.lanes[n]
  rwa [State.putLane_self] at h

theorem stripPacket_foreign {q : Byte × List Word}
    (h : packetClass q.1 = .foreign ∨ (packetClass q.1 = .reply ∧ 3 ≤ q.2.length)) (n : LaneIx) (s : State) :
    stripPacket n s (buildPacket q.1 q.2) = enterPassList n none (buildPacket q.1 q.2) s := by
  rw [stripPacket, packetGood_buildPacket, packetKind_buildPacket]
  rcases h with hc | ⟨hc, hlen⟩
  · rw [hc]
    rfl
  · rw [hc, kindCondition, if_pos (decide_eq_true hlen)]

/-- Packets for other equipment enter the pass list in order and unaltered (R45). -/
theorem stripPackets_foreign (n : LaneIx) (packets : List (Byte × List Word)) (s : State) (l : Lane)
    (h : ∀ q ∈ packets, packetClass q.1 = .foreign ∨ (packetClass q.1 = .reply ∧ 3 ≤ q.2.length)) :
    (packets.map fun q => buildPacket q.1 q.2).foldl (stripPacket n) (s.putLane n l) =
      s.putLane n { l with
        passProgress := l.passProgress ++ packets.map fun q => { group := none, words := buildPacket q.1 q.2 } } := by
  induction packets generalizing l with
  | nil => rw [List.map_nil, List.map_nil, List.append_nil]; rfl
  | cons q packets ih =>
    rw [List.map_cons, List.foldl_cons, stripPacket_foreign (h q (by simp)), enterPassList_putLane,
      ih _ fun x hx => h x (by simp [hx]), List.map_cons, List.append_assoc, List.singleton_append]

section
variable {n : LaneIx} {s : State} (h : s.takesLine n) (p : List Word)

/-- The state after the first packet of a line, with the pass list begun again. -/
def State.restarted (s : State) (n : LaneIx) (p : List Word) : State :=
  let w := stripPacket n (s.parsing n) p
  w.putLane n { w.lanes[n] with passProgress := [] }

/-- The state after a line of one packet, with that line taken back: its count and what awaits the build are as before. -/
def State.afterPacket (s : State) (n : LaneIx) (p : List Word) : State :=
  let w := stripPacket n (s.parsing n) p
  w.putLane n { w.lanes[n] with
    lineCount := (s.lanes[n]).lineCount, awaiting := (s.lanes[n]).awaiting, passProgress := [] }

/-- Taking a packet leaves the line count, the open frame and the line awaiting build. -/
theorem stripPacket_parsing_lane :
    ((stripPacket n (s.parsing n) p).lanes[n]).lineCount = (s.lanes[n]).lineCount + 1
      ∧ ((stripPacket n (s.parsing n) p).lanes[n]).frameOpen = (s.lanes[n]).frameOpen
      ∧ ((stripPacket n (s.parsing n) p).lanes[n]).awaiting = (s.lanes[n]).awaiting := by
  have hblind := stripPacket_blind n p
  refine ⟨(hblind.lineCount (s.parsing n) n).trans ?_, (hblind.frameOpen (s.parsing n) n).trans ?_,
    (hblind.awaiting (s.parsing n) n).trans ?_⟩
  all_goals rw [State.parsing, State.putLane_lane]

/-- The next line's parse begins where the first packet of this line left off. -/
theorem afterPacket_parsing : (s.afterPacket n p).parsing n = s.restarted n p := by
  obtain ⟨hcount, -, hawaiting⟩ := stripPacket_parsing_lane (n := n) (s := s) p
  rw [State.parsing, State.afterPacket, State.putLane_putLane, State.putLane_lane, State.restarted, ← hawaiting, ← hcount]

theorem afterPacket_lineCount : ((s.afterPacket n p).lanes[n]).lineCount = (s.lanes[n]).lineCount := by
  rw [State.afterPacket, State.putLane_lane]

/-- Taking the rest of a line: the entries of the first packet stand before those of the others. -/
theorem stripPackets_restarted (ps : List (List Word)) :
    ps.foldl (stripPacket n) (stripPacket n (s.parsing n) p) =
      (ps.foldl (stripPacket n) (s.restarted n p)).recast
        (Unread.before n ((stripPacket n (s.parsing n) p).lanes[n]).passProgress) := by
  have hsplit := stripPackets_putLane n ps (s.restarted n p) ((stripPacket n (s.parsing n) p).lanes[n]).passProgress
    (congrArg Lane.passProgress (State.putLane_lane ..))
  rwa [State.restarted, State.putLane_putLane, State.putLane_lane, State.putLane_self, ← State.restarted] at hsplit

include h

theorem afterPacket_takesLine : (s.afterPacket n p).takesLine n := by
  obtain ⟨hheld, hlock, hopen, hcount⟩ := h
  have hlocks : (s.parsing n).locks n := by rwa [State.locks, State.parsing, State.putLane_lane]
  obtain ⟨-, hframe, -⟩ := stripPacket_parsing_lane (n := n) (s := s) p
  rw [State.takesLine, State.afterPacket, State.putLane_lane]
  exact ⟨((stripPacket_blind n p).resetHeld (s.parsing n)).trans hheld,
    ((stripPacket_steady hlocks p).locks n).2 hlocks, hframe.trans hopen, hcount⟩

end

/-- Settles O11: foreign packets enter the pass list one after another, and no packet reads or changes what the line's first
packet and its rest share of the lane. -/
theorem lineCarriesForeignPackets : Obligations.LineCarriesForeignPackets := by
  intro n s h
  refine ⟨fun packets k hpackets => ?_, fun passed rest tail head hpassed hrest => ?_⟩
  · intro blanking
    have hblanking : blanking = (packets.map fun q => buildPacket q.1 q.2).flatten ++ List.replicate k 0 := by
      rw [← List.flatMap_def]
    have hscan : scanLine blanking = (packets.map fun q => buildPacket q.1 q.2, false) := by
      rw [hblanking, scanLine_packets, scanLine_filler, List.append_nil]
      intro p hp
      obtain ⟨q, hq, rfl⟩ := List.mem_map.1 hp
      exact buildPacket_isPacket q.1 (hpackets q hq).1
    rw [exec_inputCarriageLine_parsed h, hscan, State.parsing, stripPackets_foreign _ _ _ _ fun q hq => (hpackets q hq).2,
      finishLine_whole, State.putLane_putLane, State.putLane_lane]
    rfl
  · intro first l
    have hpacket : IsPacket (leadWord :: head :: rest) := ⟨head, rest, rfl, hrest⟩
    have hfirst : scanLine first = ([leadWord :: head :: rest], false) := by
      have hscan := scanLine_packet hpacket []
      rw [List.append_nil] at hscan
      exact (scanLine_passed hpassed _).trans hscan
    have hwhole : scanLine (first ++ tail) = ((leadWord :: head :: rest) :: (scanLine tail).1, (scanLine tail).2) := by
      rw [List.append_assoc, scanLine_passed hpassed, scanLine_packet hpacket]
    have htail := exec_inputCarriageLine_parsed (afterPacket_takesLine h (leadWord :: head :: rest)) tail
    rw [afterPacket_parsing, afterPacket_lineCount, finishLine_eq] at htail
    refine ⟨_, _, exec_inputCarriageLine_parsed h first, Eq.trans ?_ htail, ?_⟩
    · rw [hfirst, finishLine_whole, State.putLane_putLane, State.putLane_lane]
      rfl
    · rw [exec_inputCarriageLine_parsed h, hwhole, List.foldl_cons, stripPackets_restarted, State.recast_before,
        finishLine_putLane, hfirst, finishLine_eq]
      simp only [State.putLane_putLane, State.putLane_lane]
      rfl

end Sys2Proof.Machine
end

section
/-! Frame marks on a line of a LOCKED lane (R40, R41, R140 to R142): O14, O15. -/

namespace Sys2Proof.Machine

/-! ### A consumed frame mark (R140 to R142, R145) -/

section
variable (a : LaneIx) (s : State)

/-- A consumed frame mark reaches the frame count unit alone. -/
theorem takeMark_frame (count : Word) : takeMark a count s = { s with ref := (takeMark a count s).ref } := by
  unfold takeMark followMark
  split
  · split
    · split <;> rfl
    · rfl
  · rfl

theorem takeMark_invalid {count : Word} (h : 60000 ≤ count.toNat) :
    (takeMark a count s).ref = { s.ref with invalid := raise s.ref.invalid 1 } := by
  rw [takeMark, dif_neg (by omega)]
  rfl

theorem takeMark_ignored {count : Word} (h : count.toNat < 60000)
    (hrole : s.ref.role = .leader ∨ inSet s.ref.markIn a = false) :
    (takeMark a count s).ref = { s.ref with ignored := raise s.ref.ignored 1 } := by
  have hnot : ¬ (s.ref.role = .follower ∧ inSet s.ref.markIn a = true) := by
    rintro ⟨hfollower, hin⟩
    rcases hrole with hleader | hout
    · rw [hleader] at hfollower
      cases hfollower
    · rw [hout] at hin
      cases hin
  rw [takeMark, dif_pos h, if_neg hnot]
  rfl

theorem takeMark_follow {count : Word} {c : Fin 60000} (h : count.toNat = c.val) (hrole : s.ref.role = .follower)
    (hin : inSet s.ref.markIn a = true) : takeMark a count s = followMark a c s := by
  have hsmall : count.toNat < 60000 := h ▸ c.isLt
  rw [takeMark, dif_pos hsmall, if_pos ⟨hrole, hin⟩, show (⟨count.toNat, hsmall⟩ : Fin 60000) = c from Fin.ext h]

/-- The flags an RC event of a format leaves (R145). -/
theorem rcEvent_realign (f : Format) (m : LaneIx) :
    (rcEvent (some f) s).ref.realign[m] = (s.ref.realign[m]
      || (decide ((s.lanes[m]).inputState = .locked) && decide ((s.lanes[m]).format = some f))) :=
  updateAll_getElem_fin ..

variable {a s} {c : Fin 60000}

/-- A mark in step: the count, the RC event's flags, and the marks that wait on the other lanes (R141, R145). -/
theorem followMark_inStep (h : c.val = (s.ref.count.val + 1) % 60000) {f : Format}
    (hf : (s.lanes[a]).format = some f) :
    let r := (followMark a c s).ref
    r = { s.ref with
        count := c, inStep := raise s.ref.inStep 1, pendingMark := r.pendingMark, realign := r.realign }
      ∧ ∀ m : LaneIx,
        r.pendingMark[m] =
          (if inSet s.ref.markOut m = true ∧ m ≠ a ∧ (s.lanes[m]).inputState = .locked then some c
          else s.ref.pendingMark[m])
        ∧ r.realign[m] = (s.ref.realign[m]
          || (decide ((s.lanes[m]).inputState = .locked) && decide ((s.lanes[m]).format = some f))) := by
  have hnext : c = nextCount s.ref.count := Fin.ext h
  rw [followMark, if_pos hnext, hf]
  exact ⟨rfl, fun m => ⟨updateAll_getElem_fin .., rcEvent_realign _ f m⟩⟩

/-- A jump: the count and the RC event's flags; no mark waits (R142, R145). -/
theorem followMark_jump (h : c.val ≠ (s.ref.count.val + 1) % 60000) {f : Format}
    (hf : (s.lanes[a]).format = some f) :
    let r := (followMark a c s).ref
    r = { s.ref with count := c, jumps := raise s.ref.jumps 1, realign := r.realign }
      ∧ ∀ m : LaneIx, r.realign[m] = (s.ref.realign[m]
        || (decide ((s.lanes[m]).inputState = .locked) && decide ((s.lanes[m]).format = some f))) := by
  have hnext : ¬ c = nextCount s.ref.count := fun e => h (congrArg Fin.val e)
  rw [followMark, if_neg hnext, hf]
  exact ⟨rfl, rcEvent_realign _ f⟩

end

/-! ### A line of one frame mark (R24, R31, R40, R41) -/

section
variable (s : State) (n : LaneIx)

@[simp] theorem State.parsing_ref : (s.parsing n).ref = s.ref := rfl

@[simp] theorem State.parsing_inputState (m : LaneIx) :
    ((s.parsing n).lanes[m]).inputState = (s.lanes[m]).inputState :=
  modifyAt_proj Lane.inputState (f := fun l => { l with lineCount := l.lineCount + 1, passProgress := [] })
    (fun _ => rfl) s.lanes n m

@[simp] theorem State.parsing_format (m : LaneIx) : ((s.parsing n).lanes[m]).format = (s.lanes[m]).format :=
  modifyAt_proj Lane.format (f := fun l => { l with lineCount := l.lineCount + 1, passProgress := [] })
    (fun _ => rfl) s.lanes n m

end

theorem stripPacket_mark (n : LaneIx) (s : State) (c : Word) :
    stripPacket n s (buildPacket 0x50 [c]) =
      if inSet s.ref.markIn n ∨ inSet s.ref.markOut n then takeMark n c s
      else enterPassList n none (buildPacket 0x50 [c]) s := by
  have hclass : packetClass 0x50 = .frameMark := rfl
  have hgood : packetGood (buildPacket 0x50 [c]) = true := by
    rw [packetGood_buildPacket, hclass]
    rfl
  rw [stripPacket, if_pos hgood, packetKind_buildPacket, hclass]
  simp only [stripMark, packetPayload_buildPacket, List.getD_cons_zero]

section
variable {n : LaneIx} {s : State} (h : s.takesLine n) (c : Word) (k : Nat)
include h

/-- A mark on a lane of either mark set is consumed, and its line leaves an empty pass list (R40). -/
theorem exec_markLine_consumed (hset : (inSet s.ref.markIn n || inSet s.ref.markOut n) = true) :
    exec (.inputCarriageLine n (packetLine (buildPacket 0x50 [c]) k)) s =
      .next { s.putLane n ((s.lanes[n]).afterLine (packetLine (buildPacket 0x50 [c]) k) []) with
        ref := (takeMark n c (s.parsing n)).ref } := by
  have hstrip : stripPacket n (s.parsing n) (buildPacket 0x50 [c]) = takeMark n c (s.parsing n) :=
    (stripPacket_mark ..).trans (if_pos (Bool.or_eq_true_iff.1 hset))
  rw [exec_packetLine h (buildPacket_isPacket 0x50 (by simp)), hstrip, takeMark_frame, finishLine_whole]
  simp [State.parsing, State.putLane, Lane.afterLine]

/-- A mark on a lane of neither set is carried on (R41). -/
theorem exec_markLine_carried (hset : (inSet s.ref.markIn n || inSet s.ref.markOut n) = false) :
    exec (.inputCarriageLine n (packetLine (buildPacket 0x50 [c]) k)) s =
      .next (s.putLane n ((s.lanes[n]).afterLine (packetLine (buildPacket 0x50 [c]) k)
        [{ group := none, words := buildPacket 0x50 [c] }])) := by
  have hneither : ¬ (inSet s.ref.markIn n = true ∨ inSet s.ref.markOut n = true) := by
    rw [← Bool.or_eq_true_iff, hset]
    exact Bool.false_ne_true
  have hstrip : stripPacket n (s.parsing n) (buildPacket 0x50 [c]) =
      enterPassList n none (buildPacket 0x50 [c]) (s.parsing n) :=
    (stripPacket_mark ..).trans (if_neg hneither)
  rw [exec_packetLine h (buildPacket_isPacket 0x50 (by simp)), hstrip]
  simp only [State.parsing, enterPassList_putLane, finishLine_whole, State.putLane_putLane, State.putLane_lane]
  rfl

end

/-- Settles O14: the consumed mark follows in step. -/
theorem markInStepIsPropagated : Obligations.MarkInStepIsPropagated := by
  intro n c f k s h hf hrole hin hstep blanking
  have hcount : (BitVec.ofNat 16 c.val).toNat = c.val := by
    rw [BitVec.toNat_ofNat]
    omega
  have htake : takeMark n (BitVec.ofNat 16 c.val) (s.parsing n) = followMark n c (s.parsing n) :=
    takeMark_follow n (s.parsing n) hcount hrole hin
  obtain ⟨href, hlanes⟩ := followMark_inStep (s := s.parsing n) hstep ((s.parsing_format n n).trans hf)
  refine ⟨_, exec_markLine_consumed h _ k (Bool.or_eq_true_iff.2 (.inl hin)), rfl, ?_⟩
  rw [htake]
  exact ⟨href, by simpa only [State.parsing_ref, State.parsing_inputState, State.parsing_format] using hlanes⟩

/-- Settles O15: each judgement of a mark, on a line that consumes it or carries it on. -/
theorem markNotInStepIsJudged : Obligations.MarkNotInStepIsJudged := by
  intro n c f k s h hf packet blanking read inputs consumed
  refine ⟨exec_markLine_carried h c k, fun hset hbig => ?_, fun hset hsmall hrole => ?_,
    fun count hcount hrole hin hjump => ?_⟩
  · rw [exec_markLine_consumed h c k hset, takeMark_invalid n _ hbig]
    rfl
  · rw [exec_markLine_consumed h c k hset, takeMark_ignored n (s.parsing n) hsmall hrole]
    rfl
  · have htake : takeMark n c (s.parsing n) = followMark n count (s.parsing n) :=
      takeMark_follow n (s.parsing n) hcount.symm hrole hin
    obtain ⟨href, hlanes⟩ := followMark_jump (c := count) (s := s.parsing n) (hcount ▸ hjump)
      ((s.parsing_format n n).trans hf)
    refine ⟨_, exec_markLine_consumed h c k (Bool.or_eq_true_iff.2 (.inl hin)), rfl, ?_⟩
    rw [htake]
    exact ⟨href, by simpa only [State.parsing_ref, State.parsing_inputState, State.parsing_format] using hlanes⟩

end Sys2Proof.Machine
end

section
/-! The low class on a lane that embeds nothing, off line 0 (R39, R46, R113, R114): O22. -/

namespace Sys2Proof.Machine

/-! ### Entries offered to what is left of a line (R113) -/

theorem fitEntries_of_fits {es : List PassEntry} {room : Nat} (h : (es.flatMap PassEntry.words).length ≤ room) :
    fitEntries es room = (es, 0) := by
  induction es generalizing room with
  | nil => rfl
  | cons e rest ih =>
    rw [List.flatMap_cons, List.length_append] at h
    rw [fitEntries, if_pos (by omega), ih (by omega)]

/-- An entry longer than the room is displaced, wherever it stands among entries that fit (R113). -/
theorem fitEntries_of_long {before after : List PassEntry} {long : PassEntry} {room : Nat}
    (hlong : room < long.words.length) (h : ((before ++ after).flatMap PassEntry.words).length ≤ room) :
    fitEntries (before ++ long :: after) room = (before ++ after, 1) := by
  induction before generalizing room with
  | nil =>
    have hafter := fitEntries_of_fits (es := after) h
    rw [List.nil_append, fitEntries, if_neg (by omega), hafter]
    rfl
  | cons e rest ih =>
    rw [List.cons_append, List.flatMap_cons, List.length_append] at h
    rw [List.cons_append, fitEntries, if_pos (by omega), ih (by omega) (by omega)]
    rfl

/-! ### The low class with and without a reply (R113, R114) -/

theorem lowWords_noReply (l : Lane) (passList : List PassEntry) (room : Nat) :
    lowWords l passList none room =
      let fit := fitEntries (passList.filter (offered l.plan)) room
      ⟨fit.1.flatMap PassEntry.words, false, fit.2⟩ := by
  cases ht : l.replyTurn with
  | before => simp [lowWords_before ht]
  | after => simp [lowWords_after ht]

section
variable {reply : List Word} (hreply : reply ≠ [])

theorem filter_reply (reply : List Word) (room : Nat) :
    ((some reply).filter fun r => decide (r.length ≤ room)).getD [] = if reply.length ≤ room then reply else [] := by
  by_cases h : reply.length ≤ room <;> simp [Option.filter_some, h]

include hreply

theorem lowWords_before_reply {l : Lane} (h : l.replyTurn = .before) (passList : List PassEntry) (room : Nat) :
    lowWords l passList (some reply) room =
      let fits := decide (reply.length ≤ room)
      let fit := fitEntries (passList.filter (offered l.plan)) (room - (if fits then reply.length else 0))
      if fits then ⟨reply ++ fit.1.flatMap PassEntry.words, true, fit.2⟩
      else ⟨fit.1.flatMap PassEntry.words, false, fit.2⟩ := by
  rw [lowWords_before h, filter_reply]
  by_cases hfits : reply.length ≤ room
  · simp [hfits, hreply]
  · simp [hfits]

theorem lowWords_after_reply {l : Lane} (h : l.replyTurn = .after) (passList : List PassEntry) (room : Nat) :
    lowWords l passList (some reply) room =
      let fit := fitEntries (passList.filter (offered l.plan)) room
      let placed := fit.1.flatMap PassEntry.words
      if placed.length + reply.length ≤ room then ⟨placed ++ reply, true, fit.2⟩ else ⟨placed, false, fit.2⟩ := by
  have hpos := List.length_pos_of_ne_nil hreply
  rw [lowWords_after h]
  simp only [filter_reply]
  generalize fitEntries (passList.filter (offered l.plan)) room = fit
  by_cases hfits : (fit.1.flatMap PassEntry.words).length + reply.length ≤ room
  · rw [if_pos hfits, if_pos (by omega), decide_eq_true hreply]
  · rw [if_neg hfits, if_neg (by omega), List.append_nil]
    rfl

/-- A reply alone is offered the whole room on a line of either turn. -/
theorem lowWords_replyOnly (l : Lane) (room : Nat) :
    lowWords l [] (some reply) room = if reply.length ≤ room then ⟨reply, true, 0⟩ else ⟨[], false, 0⟩ := by
  cases ht : l.replyTurn with
  | before => simp [lowWords_before_reply hreply ht, fitEntries]
  | after => simp [lowWords_after_reply hreply ht, fitEntries]

end

/-! ### The reply that waits (R114) -/

theorem State.waitingReply_of_none {s : State} {n : LaneIx} (h : s.noReplyFor n.val) : s.waitingReply n = none := by
  have hnone : s.replies.find? (fun r => decide (r.iface.val = n.val)) = none :=
    List.find?_eq_none.2 fun r hr => by simpa using h r hr
  rw [State.waitingReply, hnone]
  rfl

section
variable {s : State} {n : LaneIx} {before after : List Reply} {r : Reply} (h : s.replies = before ++ r :: after)
  (hr : r.iface.val = n.val) (hbefore : ∀ x ∈ before, x.iface.val ≠ n.val)
include h hr hbefore

theorem State.waitingReply_of_oldest : s.waitingReply n = some (buildPacket 0x5B r.payload) := by
  have hnone : before.find? (fun x => decide (x.iface.val = n.val)) = none :=
    List.find?_eq_none.2 fun x hx => by simpa using hbefore x hx
  rw [State.waitingReply, h, List.find?_append, hnone, Option.none_or, List.find?_cons_of_pos (by simpa using hr)]
  rfl

theorem eraseP_oldest : s.replies.eraseP (fun x => decide (x.iface.val = n.val)) = before ++ after := by
  rw [h, List.eraseP_append_right _ fun x hx => by simpa using hbefore x hx,
    List.eraseP_cons_of_pos (by simpa using hr)]

end

/-! ### The build (R109) -/

/-- The state after the build of a line that holds these words, its samples given to the ports the lane clocks. -/
def State.built (s : State) (n : LaneIx) (f : Format) (a : AwaitingBuild) (waiting : Bool) (displaced : Nat)
    (content : List Word) (replies : List Reply) : State :=
  { s.putLane n ((s.lanes[n]).afterBuild waiting displaced (paddedLine content a.blanking.length)) with
    replies := replies
    ports := s.clockedBy n (s.samplesOn n f a.line) }

section
variable {s : State} {n : LaneIx} {f : Format} {a : AwaitingBuild} (hb : s.buildsLine n f a) (hline : a.line ≠ 0)
  (hnothing : (s.lanes[n]).embedsNothing) (hq : ∀ g : GroupIx, ((s.lanes[n]).queues[g]).length ≤ 8)
include hb hline hnothing hq

/-- The build of a line other than line 0 on a lane that embeds nothing: the low class alone, in the whole budget. -/
theorem exec_outputLineBuild_low :
    let low := lowWords s.lanes[n] a.passList (s.waitingReply n) ((s.lanes[n]).budgetOn f)
    exec (.outputLineBuild n) s = .next (s.built n f a (s.waitingReply n).isSome low.displaced low.words
      (if low.replied then s.replies.eraseP (fun r => decide (r.iface.val = n.val)) else s.replies)) := by
  intro low
  have hgroups : placedGroups n a s = ((s.lanes[n]).queues, ⟨(s.lanes[n]).budgetOn f, []⟩) := by
    rw [placedGroups_embedsNothing hnothing, placeMark, if_neg hline, budgetInForce_eq hb.2.2.1]
  have hempty : (⟨(s.lanes[n]).budgetOn f, []⟩ : LineFill).holds ((s.lanes[n]).budgetOn f) [] := ⟨rfl, Nat.zero_add _⟩
  have hreply : (oldestReply (laneScope n) s.replies).map replyPacket = s.waitingReply n := by
    rw [oldestReply_lane]
    rfl
  have hwaiting : (oldestReply (laneScope n) s.replies).isSome = (s.waitingReply n).isSome := by
    rw [← hreply, Option.isSome_map]
  have hlow := lowClass_holds n s.lanes[n] a.passList s.replies hempty
  rw [hreply, dropOldestReply_lane] at hlow
  obtain ⟨hwords, hreplies, hdisplaced⟩ := hlow
  have hplaced : placedLow n a s = lowClass n s.lanes[n] a.passList s.replies ⟨(s.lanes[n]).budgetOn f, []⟩ := by
    rw [placedLow, hgroups]
  rw [exec_outputLineBuild_builds hb, lineReads_embedsNothing hnothing hq, placeLine_eq, hplaced, hgroups,
    finishBuild_eq hwords, hwaiting, hreplies, hdisplaced, clearPlacedMark_eq, if_neg fun e => hline e.1]
  rfl

/-- With no reply for the lane the entries alone are offered (R113). -/
theorem exec_outputLineBuild_noReply (h : s.noReplyFor n.val) :
    let fit := fitEntries (a.passList.filter (offered (s.lanes[n]).plan)) ((s.lanes[n]).budgetOn f)
    exec (.outputLineBuild n) s = .next (s.built n f a false fit.2 (fit.1.flatMap PassEntry.words) s.replies) := by
  have hbuild := exec_outputLineBuild_low hb hline hnothing hq
  rw [State.waitingReply_of_none h, lowWords_noReply] at hbuild
  exact hbuild

/-- With a reply for the lane the oldest one leaves the queue where the low class places it (R114). -/
theorem exec_outputLineBuild_reply {before after : List Reply} {r : Reply} (h : s.replies = before ++ r :: after)
    (hr : r.iface.val = n.val) (hbefore : ∀ x ∈ before, x.iface.val ≠ n.val) {p : Prop} [Decidable p]
    {placed alone : List Word} {displaced left : Nat}
    (hlow : lowWords s.lanes[n] a.passList (some (buildPacket 0x5B r.payload)) ((s.lanes[n]).budgetOn f) =
      if p then ⟨placed, true, displaced⟩ else ⟨alone, false, left⟩) :
    exec (.outputLineBuild n) s = .next
      (if p then s.built n f a true displaced placed (before ++ after)
      else s.built n f a true left alone s.replies) := by
  have hbuild := exec_outputLineBuild_low hb hline hnothing hq
  rw [State.waitingReply_of_oldest h hr hbefore, eraseP_oldest h hr hbefore, hlow] at hbuild
  rw [hbuild]
  by_cases hp : p
  · simp only [if_pos hp, if_true, Option.isSome_some]
  · simp only [if_neg hp, Bool.false_eq_true, if_false, Option.isSome_some]

end

/-- Settles O22: the low class by the reply that waits and the turn. -/
theorem lowClassIsOffered : Obligations.LowClassIsOffered := by
  intro n f a s hb hline hnothing hq l kept words built
  have hnoReply (h : s.noReplyFor n.val) :
      exec (.outputLineBuild n) s = .next (built false (fitEntries (a.passList.filter kept) (l.budgetOn f)).2
        ((fitEntries (a.passList.filter kept) (l.budgetOn f)).1.flatMap PassEntry.words) s.replies) :=
    exec_outputLineBuild_noReply hb hline hnothing hq h
  have hne (r : Reply) : buildPacket 0x5B r.payload ≠ [] := by simp [buildPacket]
  refine ⟨fun h hfits => ?_, fun before after long h hlist hkept hlong hfits => ?_,
    fun before after r hlist hreplies hr hbefore => ?_, hnoReply, fun before after r hreplies hr hbefore =>
      ⟨fun hturn => ?_, fun hturn => ?_⟩⟩
  · rw [hnoReply h, fitEntries_of_fits hfits]
  · have hfilter : a.passList.filter kept = before.filter kept ++ long :: after.filter kept := by
      rw [hlist, List.filter_append, List.filter_cons_of_pos hkept]
    have hwords : (before.filter kept ++ after.filter kept).flatMap PassEntry.words = words before ++ words after :=
      List.flatMap_append
    rw [hnoReply h, hfilter, fitEntries_of_long hlong (by rwa [hwords]), hwords]
  · have hlow := lowWords_replyOnly (hne r) l (l.budgetOn f)
    rw [← hlist, buildPacket_length] at hlow
    exact exec_outputLineBuild_reply hb hline hnothing hq hreplies hr hbefore hlow
  · exact exec_outputLineBuild_reply hb hline hnothing hq hreplies hr hbefore
      (lowWords_before_reply (hne r) hturn a.passList _)
  · exact exec_outputLineBuild_reply hb hline hnothing hq hreplies hr hbefore
      (lowWords_after_reply (hne r) hturn a.passList _)

end Sys2Proof.Machine
end

section
/-! Source records (R50 to R60, R65): what an append, a report of presence or absence and a reset leave of one, and that each
keeps it within its ranges. O32. -/

namespace Sys2Proof.Machine

/-! ### One append (R52 to R55) -/

section
variable (x : Source) (v : Sample)

/-- The silence accounting moves the block and the three runs alone (R54, R55). -/
theorem countBlock_frame :
    countBlock x v = { x with
      blockPosition := (countBlock x v).blockPosition
      blockLoud := (countBlock x v).blockLoud
      silentRun := (countBlock x v).silentRun
      activeRun := (countBlock x v).activeRun
      presentRun := (countBlock x v).presentRun } := by
  unfold countBlock
  split
  · split <;> rfl
  · rfl

/-- An append stores the sample and moves the block and the runs (R52 to R55). -/
theorem appendSample_frame :
    appendSample x v = { storeSample x v with
      blockPosition := (appendSample x v).blockPosition
      blockLoud := (appendSample x v).blockLoud
      silentRun := (appendSample x v).silentRun
      activeRun := (appendSample x v).activeRun
      presentRun := (appendSample x v).presentRun } :=
  countBlock_frame (storeSample x v) v

variable {x}

theorem countBlock_absent (h : x.present = false) : countBlock x v = x := by
  simp [countBlock, h]

theorem countBlock_within (h : x.present = true) (hpos : x.blockPosition + 1 ≠ 64) :
    countBlock x v = { x with
      blockPosition := x.blockPosition + 1
      blockLoud := x.blockLoud || isLoud x.silenceLevel v } := by
  simp [countBlock, h, hpos]

theorem countBlock_completes (h : x.present = true) (hpos : x.blockPosition + 1 = 64) :
    countBlock x v = completeBlock x (x.blockLoud || isLoud x.silenceLevel v) := by
  simp [countBlock, h, hpos]

end

theorem Memory.sorted_of_wf {b : Memory} (h : Memory.wf b = true) : (b.map Prod.fst).Pairwise (· < ·) := by
  rw [Memory.wf, Bool.and_eq_true] at h
  exact of_decide_eq_true h.1

theorem writePlace_lt (x : Source) : x.writeCount.toNat % 8192 < 8192 := Nat.mod_lt _ (by decide)

/-- Settles O32: the stored sample, then the block by whether the source is present and its block completes. -/
theorem appendTakesSample : Obligations.AppendTakesSample := by
  intro x v hwf _ y place loud blockLoud
  have hy := appendSample_frame x v
  have hbuffer : y.buffer = Memory.write x.buffer place v := appendSample_buffer x v
  refine ⟨fun q => ?_, ?_, appendSample_writeCount x v, congrArg Source.lastSample hy, congrArg Source.validSpan hy,
    congrArg Source.peak hy, appendSample_present x v, (congrArg Source.silenceLevel hy).trans rfl,
    (congrArg Source.dropped hy).trans rfl, (congrArg Source.gaps hy).trans rfl, fun habsent => ?_,
    fun hpresent hpos => ?_, fun hpresent hpos => ?_⟩
  · rw [hbuffer, Memory.read_write x.buffer (Memory.sorted_of_wf hwf)]
  · rw [hbuffer]
    exact Memory.write_wf _ _ _ (writePlace_lt x) hwf
  · have hblock : y = storeSample x v := countBlock_absent v habsent
    rw [hblock]
    exact ⟨rfl, rfl, rfl, rfl, rfl⟩
  · have hblock := countBlock_within (x := storeSample x v) v hpresent
      (show x.blockPosition + 1 ≠ 64 by omega)
    rw [show y = _ from hblock]
    exact ⟨rfl, rfl, rfl, rfl, rfl⟩
  · have hblock := countBlock_completes (x := storeSample x v) v hpresent
      (show x.blockPosition + 1 = 64 by omega)
    rw [show y = _ from hblock]
    exact ⟨rfl, rfl, rfl, rfl, rfl⟩

/-! ### A source record within its ranges (R50 to R55, R60) -/

/-- A source record's soundness part by part. -/
structure Source.stands (x : Source) : Prop where
  buffer : Memory.wf x.buffer = true
  ranges : x.silenceLevel ≤ 32767 ∧ x.peak ≤ 32767 ∧ x.validSpan ≤ 8192 ∧ x.blockPosition < 64
  runs : x.presentRun ≤ 512 ∧ x.silentRun ≤ x.presentRun ∧ x.activeRun ≤ x.presentRun
  alternate : x.silentRun = 0 ∨ x.activeRun = 0
  absent : x.present = false → x.presentRun = 0 ∧ x.blockPosition = 0 ∧ x.blockLoud = false

theorem Source.sound_iff (x : Source) : x.sound = true ↔ x.stands := by
  unfold Source.sound
  simp only [Bool.and_eq_true, Bool.or_eq_true, decide_eq_true_eq, ← Bool.not_eq_false (b := x.present), ← imp_iff_not_or]
  constructor
  · rintro ⟨⟨⟨⟨hbuffer, hranges⟩, hruns⟩, halternate⟩, habsent⟩
    exact ⟨hbuffer, hranges, hruns, halternate, habsent⟩
  · rintro ⟨hbuffer, hranges, hruns, halternate, habsent⟩
    exact ⟨⟨⟨⟨hbuffer, hranges⟩, hruns⟩, halternate⟩, habsent⟩

theorem scaledMagnitude_le (v : Sample) : scaledMagnitude v ≤ 32767 := min_le_left ..

section
variable {x : Source}

theorem storeSample_stands (h : x.stands) (v : Sample) : (storeSample x v).stands := by
  obtain ⟨hlevel, hpeak, -, hpos⟩ := h.ranges
  exact ⟨Memory.write_wf _ _ _ (writePlace_lt x) h.buffer,
    ⟨hlevel, max_le hpeak (scaledMagnitude_le v), min_le_left .., hpos⟩, h.runs, h.alternate, h.absent⟩

theorem completeBlock_stands (h : x.stands) (hpresent : x.present = true) (loud : Bool) : (completeBlock x loud).stands := by
  obtain ⟨hlevel, hpeak, hspan, -⟩ := h.ranges
  obtain ⟨hrun, hsilent, hactive⟩ := h.runs
  refine ⟨h.buffer, ⟨hlevel, hpeak, hspan, Nat.zero_lt_succ _⟩, ?_, ?_, fun e => ?_⟩
  · cases loud <;> simp only [completeBlock, Bool.false_eq_true, if_true, if_false] <;> omega
  · cases loud
    · exact .inr rfl
    · exact .inl rfl
  · rw [show (completeBlock x loud).present = x.present from rfl, hpresent] at e
    cases e

theorem countBlock_stands (h : x.stands) (v : Sample) : (countBlock x v).stands := by
  cases hpresent : x.present with
  | false =>
    rw [countBlock_absent v hpresent]
    exact h
  | true =>
    by_cases hpos : x.blockPosition + 1 = 64
    · rw [countBlock_completes v hpresent hpos]
      exact completeBlock_stands h hpresent _
    · rw [countBlock_within v hpresent hpos]
      obtain ⟨hlevel, hpeak, hspan, hlt⟩ := h.ranges
      refine ⟨h.buffer, ⟨hlevel, hpeak, hspan, by dsimp only; omega⟩, h.runs, h.alternate, fun e => ?_⟩
      rw [hpresent] at e
      cases e

/-- An append keeps a source record within its ranges. -/
theorem appendSample_sound (h : x.sound = true) (v : Sample) : (appendSample x v).sound = true := by
  rw [Source.sound_iff] at h ⊢
  exact countBlock_stands (storeSample_stands h v) v

theorem appendSamples_sound (h : x.sound = true) (vs : List Sample) : (appendSamples x vs).sound = true := by
  induction vs generalizing x with
  | nil => exact h
  | cons v vs ih => exact ih (appendSample_sound h v)

theorem becomePresent_sound (h : x.sound = true) : (becomePresent x).sound = true := by
  cases hpresent : x.present with
  | true =>
    rw [becomePresent_of_present hpresent]
    exact h
  | false =>
    rw [becomePresent_eq hpresent, Source.sound_iff]
    obtain ⟨hbuffer, ⟨hlevel, hpeak, hspan, -⟩, -, -, -⟩ := (Source.sound_iff x).1 h
    exact ⟨hbuffer, ⟨hlevel, hpeak, hspan, Nat.zero_lt_succ _⟩, ⟨Nat.zero_le _, Nat.le_refl _, Nat.le_refl _⟩, .inl rfl,
      fun _ => ⟨rfl, rfl, rfl⟩⟩

theorem becomeAbsent_sound (h : x.sound = true) : (becomeAbsent x).sound = true := by
  rw [Source.sound_iff] at h ⊢
  obtain ⟨hlevel, hpeak, -, hpos⟩ := h.ranges
  unfold becomeAbsent
  split
  · exact ⟨h.buffer, ⟨hlevel, hpeak, Nat.zero_le _, Nat.zero_lt_succ _⟩, ⟨Nat.zero_le _, Nat.le_refl _, Nat.le_refl _⟩,
      .inl rfl, fun _ => ⟨rfl, rfl, rfl⟩⟩
  · exact ⟨h.buffer, ⟨hlevel, hpeak, Nat.zero_le _, hpos⟩, h.runs, h.alternate, h.absent⟩

theorem powerOn_sound : Source.powerOn.sound = true := rfl

theorem resetSource_sound (h : x.sound = true) : (resetSource x).sound = true := by
  rw [Source.sound_iff] at h ⊢
  have hoff := (Source.sound_iff _).1 powerOn_sound
  exact ⟨h.buffer, ⟨h.ranges.1, hoff.ranges.2⟩, hoff.runs, hoff.alternate, hoff.absent⟩

theorem clearPeak_sound (h : x.sound = true) : ({ x with peak := 0 } : Source).sound = true := by
  rw [Source.sound_iff] at h ⊢
  obtain ⟨hlevel, -, hspan, hpos⟩ := h.ranges
  exact ⟨h.buffer, ⟨hlevel, Nat.zero_le _, hspan, hpos⟩, h.runs, h.alternate, h.absent⟩

theorem setLevel_sound (h : x.sound = true) (level : Nat) :
    ({ x with silenceLevel := min 32767 level } : Source).sound = true := by
  rw [Source.sound_iff] at h ⊢
  exact ⟨h.buffer, ⟨min_le_left .., h.ranges.2⟩, h.runs, h.alternate, h.absent⟩

end

end Sys2Proof.Machine
end

section
/-! What every step keeps of the source records and the queues (O55): the relation between the states before and after it, with
its rules for the elementary updates of the state. -/

namespace Sys2Proof.Machine

/-! ### What a change keeps -/

/-- A lane's carry queues are within their bound (R107). -/
def Lane.queuesFit (l : Lane) : Prop :=
  ∀ g : GroupIx, (l.queues[g]).length ≤ 8

/-- A port's two FIFOs are within their bound (R121). -/
def Port.fifosFit (x : Port) : Prop :=
  x.inFifo.length ≤ 2048 ∧ x.outFifo.length ≤ 2048

/-- The change from one state to the next keeps each source record sound and each queue within its bound; it leaves at most `b`
replies where there were at most `a`. -/
structure Bounds (a b : Nat) (s t : State) : Prop where
  sources : ∀ i : SourceIx, (s.sources[i]).sound = true → (t.sources[i]).sound = true
  lanes : ∀ n : LaneIx, (s.lanes[n]).queuesFit → (t.lanes[n]).queuesFit
  ports : ∀ p : PortIx, (s.ports[p]).fifosFit → (t.ports[p]).fifosFit
  undo : ∀ i : Iface, (s.undo[i]).length ≤ 6 → (t.undo[i]).length ≤ 6
  replies : s.replies.length ≤ a → t.replies.length ≤ b

section
variable {a b c : Nat} {s t u : State}

theorem Bounds.trans (h : Bounds a b s t) (k : Bounds b c t u) : Bounds a c s u where
  sources := fun i e => k.sources i (h.sources i e)
  lanes := fun n e => k.lanes n (h.lanes n e)
  ports := fun p e => k.ports p (h.ports p e)
  undo := fun i e => k.undo i (h.undo i e)
  replies := fun e => k.replies (h.replies e)

theorem Bounds.refl (a : Nat) (s : State) : Bounds a a s s :=
  ⟨fun _ => id, fun _ => id, fun _ => id, fun _ => id, id⟩

/-- What is kept from `b` replies on is kept from fewer. -/
theorem Bounds.ofFewer (h : Bounds b c s t) (hab : a ≤ b) : Bounds a c s t :=
  { h with replies := fun e => h.replies (e.trans hab) }

theorem Bounds.sourcesSound (h : Bounds a b s t) (hs : s.sourcesSound) : t.sourcesSound :=
  fun i => h.sources i (hs i)

theorem Bounds.queuesBounded (h : Bounds 8 8 s t) (hs : s.queuesBounded) : t.queuesBounded := by
  obtain ⟨hlanes, hports, hundo, hreplies⟩ := hs
  exact ⟨fun n => h.lanes n (hlanes n), fun p => h.ports p (hports p), fun i => h.undo i (hundo i), h.replies hreplies⟩

/-! ### Rules for the updates of one block -/

/-- A change of any blocks, each kept on its own. -/
theorem Bounds.of
    (sources : ∀ i : SourceIx, (s.sources[i]).sound = true → (t.sources[i]).sound = true := by exact fun _ h => h)
    (lanes : ∀ n : LaneIx, (s.lanes[n]).queuesFit → (t.lanes[n]).queuesFit := by exact fun _ h => h)
    (ports : ∀ p : PortIx, (s.ports[p]).fifosFit → (t.ports[p]).fifosFit := by exact fun _ h => h)
    (undo : ∀ i : Iface, (s.undo[i]).length ≤ 6 → (t.undo[i]).length ≤ 6 := by exact fun _ h => h)
    (replies : s.replies.length ≤ a → t.replies.length ≤ b := by exact fun h => h) : Bounds a b s t :=
  ⟨sources, lanes, ports, undo, replies⟩

theorem Bounds.modifyLane {n : LaneIx} {f : Lane → Lane} (h : (s.lanes[n]).queuesFit → (f s.lanes[n]).queuesFit) :
    Bounds a a s (s.modifyLane n f) := by
  refine Bounds.of (lanes := fun m => ?_)
  rw [State.modifyLane_lanes, modifyAt_getElem]
  split
  next hm => subst hm; exact h
  next => exact id

theorem Bounds.modifyPort {p : PortIx} {f : Port → Port} (h : (s.ports[p]).fifosFit → (f s.ports[p]).fifosFit) :
    Bounds a a s (s.modifyPort p f) := by
  refine Bounds.of (ports := fun q => ?_)
  rw [State.modifyPort_ports, modifyAt_getElem]
  split
  next hq => subst hq; exact h
  next => exact id

theorem Bounds.updatePorts {f : PortIx → Port → Port} (h : ∀ p x, x.fifosFit → (f p x).fifosFit) :
    Bounds a a s (s.updatePorts f) :=
  Bounds.of (ports := fun p => by rw [State.updatePorts_ports, updateAll_getElem_fin]; exact h p _)

theorem Bounds.modifySource {i : SourceIx} {f : Source → Source} (h : ∀ x : Source, x.sound = true → (f x).sound = true) :
    Bounds a a s (s.modifySource i f) := by
  refine Bounds.of (sources := fun k => ?_)
  rw [State.modifySource_sources, modifyAt_getElem]
  split
  next hk => subst hk; exact h _
  next => exact id

theorem Bounds.updateSources {f : SourceIx → Source → Source} (h : ∀ i x, x.sound = true → (f i x).sound = true) :
    Bounds a a s (s.updateSources f) :=
  Bounds.of (sources := fun i => by rw [State.updateSources_sources, updateAll_getElem_fin]; exact h i _)

/-- Some of the sources, changed together. -/
theorem Bounds.updateSome {q : SourceIx → Prop} [DecidablePred q] {f : SourceIx → Source → Source}
    (h : ∀ i x, x.sound = true → (f i x).sound = true) :
    Bounds a a s (s.updateSources fun i x => if q i then f i x else x) := by
  refine Bounds.updateSources fun i x hx => ?_
  split
  · exact h i x hx
  · exact hx

theorem Bounds.updateChannel {p : PortIx} {c : ChanIx} {f : Fin 8 → Source → Source}
    (h : ∀ t x, x.sound = true → (f t x).sound = true) : Bounds a a s (updateChannel p c f s) :=
  Bounds.updateSome fun _ x => h _ x

theorem Bounds.updateGroup {n : LaneIx} {g : GroupIx} {f : Fin 4 → Source → Source}
    (h : ∀ t x, x.sound = true → (f t x).sound = true) : Bounds a a s (updateGroup n g f s) :=
  Bounds.updateSome fun _ x => h _ x

theorem absentLane_bounds (n : LaneIx) : Bounds a a s (absentLane n s) :=
  Bounds.updateSome fun _ _ => becomeAbsent_sound

theorem absentPort_bounds (p : PortIx) : Bounds a a s (absentPort p s) :=
  Bounds.updateSome fun _ _ => becomeAbsent_sound

/-- One more reply (R164). -/
theorem queueReply_bounds (i : Iface) (status : Status) (tag : Word) (kind : Byte) (data : List Word) :
    Bounds 7 8 s (queueReply i status tag kind data s) := by
  refine Bounds.of (replies := fun h => ?_)
  rw [queueReply_replies, List.length_append, List.length_singleton]
  omega

theorem Bounds.queued (h : Bounds 7 7 s t) (i : Iface) (status : Status) (tag : Word) (kind : Byte) (data : List Word) :
    Bounds 7 8 s (queueReply i status tag kind data t) :=
  h.trans (queueReply_bounds ..)

/-- A reply queue that a purge or a reply's leaving shortens (R114, R135, R166). -/
theorem Bounds.shorten {rs : List Reply} (h : rs.length ≤ s.replies.length) : Bounds a a s { s with replies := rs } :=
  Bounds.of (replies := h.trans)

theorem purgeReplies_length_le (i : Iface) (rs : List Reply) : (purgeReplies i rs).length ≤ rs.length :=
  List.length_filter_le ..

theorem dropOldestReply_length_le (i : Iface) (rs : List Reply) : (dropOldestReply i rs).length ≤ rs.length :=
  List.length_eraseP_le

end

end Sys2Proof.Machine
end

section
/-! An application of a take, and every request, keep the source records and the queues within their bounds (O55). -/

namespace Sys2Proof.Machine

/-! ### Carry queues and FIFOs that an event leaves -/

section
variable {l : Lane} {x : Port}

theorem queuesFit_of_empty (h : l.queues = Vector.replicate 4 []) : l.queuesFit := by
  intro g
  rw [h]
  simp

theorem plannedLane_queuesFit (h : l.queuesFit) (plan : Option ScopePlan) : (plannedLane plan l).queuesFit := by
  intro g
  rw [plannedLane_queues]
  split
  · exact Nat.zero_le _
  · exact h g

theorem clockSamples_fifosFit (h : x.fifosFit) (count : Nat) : (clockSamples count x).fifosFit := by
  rw [clockSamples_frame]
  exact h

theorem plannedPort_fifosFit (h : x.fifosFit) (s : State) (plan : Option ScopePlan) : (plannedPort s plan x).fifosFit := by
  unfold plannedPort
  split <;> exact h

end

/-! ### Output sides and takes (R83, R84, R157 to R161) -/

section
variable {a : Nat} {s : State}

theorem setGroups_bounds (n : LaneIx) (runs : GroupIx → Bool) : Bounds a a s (setGroups n runs s) :=
  Bounds.trans (t := stopDests _ s) .of (Bounds.modifyLane id)

theorem setChannels_bounds (p : PortIx) (runs : ChanIx → Bool) : Bounds a a s (setChannels p runs s) :=
  Bounds.trans (t := stopDests _ s) .of (Bounds.modifyPort id)

theorem settleScope_bounds (scope : Iface) : Bounds a a s (settleScope scope s) := by
  unfold settleScope
  split
  · exact setGroups_bounds ..
  · exact setChannels_bounds ..

/-- A scope holds at most 6 undo records: the oldest is lost (R158). -/
theorem pushUndo_length_le (t : Take) (i : Iface) (h : (s.undo[i]).length ≤ 6) : ((pushUndo t s).undo[i]).length ≤ 6 := by
  rw [pushUndo_undo]
  split
  · exact List.length_take_le ..
  · exact h

/-- The APPLIED reply is queued where the queue has room for it (R160). -/
theorem replyApplied_length_le (lost : Option LaneIx) (t : Take) (h : s.replies.length ≤ 8) :
    (replyApplied lost t s).replies.length ≤ 8 := by
  unfold replyApplied
  split
  next hroom =>
    rw [queueReply_replies, List.length_append]
    exact hroom.2
  next => exact h

theorem applyTake_bounds (lost : Option LaneIx) (t : Take) : Bounds 8 8 s (applyTake lost t s) := by
  refine Bounds.of (sources := fun i => ?_) (lanes := fun n h => ?_) (ports := fun p h => ?_) (undo := fun i h => ?_)
    (replies := fun h => ?_)
  · rw [applyTake_sources]
    exact id
  · rcases applyTake_lane_cases (s := s) (t := t) lost n with hn | hn <;> rw [hn]
    · exact h
    · exact plannedLane_queuesFit h t.plan
  · rcases applyTake_port (s := s) (t := t) lost p with hp | hp <;> rw [hp]
    · exact h
    · exact plannedPort_fifosFit h s t.plan
  · rw [applyTake_undo]
    exact pushUndo_length_le t i h
  · rw [applyTake_eq_reply]
    refine replyApplied_length_le lost t ?_
    rw [enteredState_eq]
    exact h

theorem applyIfIdle_bounds (t : Take) : Bounds 8 8 s (applyIfIdle t s) := by
  unfold applyIfIdle
  split
  · split
    · exact Bounds.refl ..
    · exact applyTake_bounds ..
  · exact Bounds.refl ..

end

/-! ### The room and form tests (R25, R163) -/

section
variable {s : State}

theorem withRoom_bounds {act : State → State} (h : Bounds 7 8 s (act s)) : Bounds 8 8 s (withRoom s act) := by
  unfold withRoom
  split
  next hroom => exact { h with replies := fun _ => h.replies (Nat.le_of_lt_succ hroom) }
  next => exact Bounds.of

theorem withIndex_bounds {n : Nat} {i : Iface} {tag : Word} {kind : Byte} {params : List Word}
    {act : Fin n → State → State} (h : ∀ k, Bounds 7 8 s (act k s)) :
    Bounds 8 8 s (withIndex n i tag kind params s act) := by
  refine withRoom_bounds ?_
  split
  · split
    · exact h _
    · exact queueReply_bounds ..
  · exact queueReply_bounds ..

theorem withoutParams_bounds {i : Iface} {tag : Word} {kind : Byte} {params : List Word} {act : State → State}
    (h : Bounds 7 8 s (act s)) : Bounds 8 8 s (withoutParams i tag kind params s act) := by
  refine withRoom_bounds ?_
  split
  · exact h
  · exact queueReply_bounds ..

end

/-! ### Settings (R56, R128, R131, R143) -/

section
variable {a : Nat} (s : State) (i : Iface) (tag : Word) (params : List Word)

theorem setSource_bounds : Bounds 8 8 s (setSource i tag params s) := by
  refine withRoom_bounds ?_
  split
  · split
    · exact (Bounds.modifySource fun _ h => setLevel_sound h _).queued ..
    · exact queueReply_bounds ..
  · exact queueReply_bounds ..

theorem setReference_bounds : Bounds 8 8 s (setReference i tag params s) := by
  refine withRoom_bounds ?_
  split
  · exact Bounds.queued .of ..
  · split
    · exact Bounds.queued .of ..
    · exact queueReply_bounds ..
  · exact queueReply_bounds ..

/-- A receive side that stops has an empty in FIFO, and its port's replies leave the queue (R128, R166). -/
theorem setReceive_bounds (p : PortIx) (enable : Bool) : Bounds a a s (setReceive p enable s) := by
  unfold setReceive
  split
  · exact Bounds.modifyPort id
  split
  · have hstop : Bounds a a s (s.modifyPort p stopReceive) :=
      Bounds.modifyPort fun h => ⟨Nat.zero_le _, h.2⟩
    exact (hstop.trans (absentPort_bounds p)).trans (Bounds.shorten (purgeReplies_length_le ..))
  · exact Bounds.refl ..

theorem haltTransmit_bounds (p : PortIx) (state : TransmitState) : Bounds a a s (haltTransmit p state s) :=
  (Bounds.modifyPort id).trans (setChannels_bounds ..)

theorem setTransmit_bounds (p : PortIx) (enable : Bool) : Bounds a a s (setTransmit p enable s) := by
  unfold setTransmit
  split
  · exact Bounds.modifyPort id
  · exact Bounds.refl ..
  · exact Bounds.refl ..
  · exact haltTransmit_bounds ..

theorem setPort_bounds : Bounds 8 8 s (setPort i tag params s) := by
  refine withRoom_bounds ?_
  split
  · split
    · exact ((setReceive_bounds ..).trans (setTransmit_bounds ..)).queued ..
    · exact queueReply_bounds ..
  · exact queueReply_bounds ..

/-! ### Counters and reset (R169, R170) -/

theorem zeroCounters_bounds : Bounds a a s (zeroCounters s) := by
  refine Bounds.of (sources := fun i => ?_) (lanes := fun n => ?_) (ports := fun p => ?_)
  all_goals
    simp only [zeroCounters, updateAll_getElem_fin]
    exact id

theorem resetBlocks_bounds : Bounds a a s (resetBlocks s) := by
  refine Bounds.of (sources := fun i h => ?_) (lanes := fun n _ => ?_) (ports := fun p _ => ?_) (undo := fun i _ => ?_)
    (replies := fun _ => Nat.zero_le _)
  · simp only [resetBlocks, updateAll_getElem_fin]
    exact resetSource_sound h
  · simp only [resetBlocks, updateAll_getElem_fin]
    exact queuesFit_of_empty rfl
  · simp only [resetBlocks, updateAll_getElem_fin]
    exact ⟨Nat.zero_le _, Nat.zero_le _⟩
  · simp [resetBlocks]

/-! ### Take requests (R150 to R156, R161) -/

theorem openTake_bounds : Bounds 8 8 s (openTake i tag params s) := by
  refine withIndex_bounds fun scope => ?_
  split
  · exact queueReply_bounds ..
  · exact Bounds.queued .of ..

theorem setRoute_bounds : Bounds 8 8 s (setRoute i tag params s) := by
  refine withRoom_bounds ?_
  split
  · split
    · unfold routeRequest
      split
      · exact queueReply_bounds ..
      · split
        · exact queueReply_bounds ..
        · exact Bounds.queued .of ..
    · exact queueReply_bounds ..
  · exact queueReply_bounds ..

theorem setPlan_bounds : Bounds 8 8 s (setPlan i tag params s) := by
  refine withRoom_bounds ?_
  split
  · split
    · exact queueReply_bounds ..
    · split
      · exact queueReply_bounds ..
      · split
        · exact queueReply_bounds ..
        · exact Bounds.queued .of ..
  · exact queueReply_bounds ..

theorem commitTake_bounds : Bounds 8 8 s (commitTake i tag params s) := by
  refine withoutParams_bounds ?_
  split
  · exact queueReply_bounds ..
  · exact (Bounds.trans .of (applyIfIdle_bounds _)).ofFewer (by decide)

theorem abandonTake_bounds : Bounds 8 8 s (abandonTake i tag params s) := by
  refine withoutParams_bounds ?_
  split
  · exact queueReply_bounds ..
  · exact Bounds.queued .of ..

/-- UNDO TAKE takes a record off its scope's stack (R161). -/
theorem undoTake_bounds : Bounds 8 8 s (undoTake i tag params s) := by
  refine withIndex_bounds fun scope => ?_
  split
  · exact queueReply_bounds ..
  · split
    · exact queueReply_bounds ..
    next record rest hundo =>
      refine Bounds.ofFewer (Bounds.trans (Bounds.of (undo := fun j h => ?_)) (applyIfIdle_bounds _)) (by decide)
      rw [modifyAt_getElem]
      split
      next hj =>
        subst hj
        rw [hundo] at h
        exact (Nat.le_succ _).trans h
      next => exact h

/-! ### A request of any kind (R25, R163) -/

theorem takeRequest_bounds (kind : Byte) : Bounds 8 8 s (takeRequest i kind tag params s) := by
  unfold takeRequest
  split
  · exact withIndex_bounds fun _ => queueReply_bounds ..
  · exact withIndex_bounds fun _ => queueReply_bounds ..
  · exact withIndex_bounds fun _ => (Bounds.modifySource fun _ => clearPeak_sound).queued ..
  · exact withIndex_bounds fun _ => queueReply_bounds ..
  · exact withIndex_bounds fun _ => queueReply_bounds ..
  · exact withoutParams_bounds (queueReply_bounds ..)
  · exact withoutParams_bounds (queueReply_bounds ..)
  · exact withoutParams_bounds (queueReply_bounds ..)
  · exact setSource_bounds ..
  · exact setReference_bounds ..
  · exact setPort_bounds ..
  · exact withoutParams_bounds ((zeroCounters_bounds s).queued ..)
  · exact withoutParams_bounds ((resetBlocks_bounds s).queued ..)
  · exact openTake_bounds ..
  · exact setRoute_bounds ..
  · exact setPlan_bounds ..
  · exact commitTake_bounds ..
  · exact abandonTake_bounds ..
  · exact undoTake_bounds ..
  · exact withRoom_bounds (queueReply_bounds ..)

theorem handOver_bounds (payload : List Word) : Bounds 8 8 s (handOver i payload s) := by
  unfold handOver
  split
  · exact takeRequest_bounds ..
  · exact Bounds.refl ..

end

end Sys2Proof.Machine
end

section
/-! The events of a lane, a port and the station clock keep the source records and the queues within their bounds (O55). -/

namespace Sys2Proof.Machine

/-! ### Packets and lines of a lane (R31 to R48) -/

section
variable {a : Nat} (s : State) (n : LaneIx)

theorem takeMark_bounds (count : Word) : Bounds a a s (takeMark n count s) := by
  rw [takeMark_frame]
  exact .of

theorem enterPassList_bounds (group : Option GroupIx) (p : List Word) : Bounds a a s (enterPassList n group p s) :=
  Bounds.modifyLane id

theorem stripSound_bounds (g : GroupIx) (grade : Grade) (p : List Word) : Bounds a a s (stripSound n g grade p s) := by
  have hsources := Bounds.updateGroup (a := a) (s := s) (n := n) (g := g)
    (f := fun t x => appendSamples x (trackSamples grade (packetPayload p) t)) fun _ _ h => appendSamples_sound h _
  exact (hsources.trans (Bounds.modifyLane id)).trans (enterPassList_bounds ..)

theorem stripRequest_bounds (p : List Word) : Bounds 8 8 s (stripRequest n p s) := by
  unfold stripRequest
  split
  · exact handOver_bounds ..
  split
  · exact (handOver_bounds ..).trans (enterPassList_bounds ..)
  · exact enterPassList_bounds ..

theorem dropDamaged_bounds (p : List Word) : Bounds a a s (dropDamaged n p s) := by
  have hcount : Bounds a a s (s.modifyLane n fun l =>
      { l with counters := { l.counters with damaged := raise l.counters.damaged 1 } }) := Bounds.modifyLane id
  unfold dropDamaged
  split
  · exact hcount.trans (Bounds.updateGroup fun _ _ h => h)
  · exact hcount

theorem stripPacket_bounds (p : List Word) : Bounds 8 8 s (stripPacket n s p) := by
  unfold stripPacket
  split
  · split
    · exact stripSound_bounds ..
    · unfold stripMark
      split
      · exact takeMark_bounds ..
      · exact enterPassList_bounds ..
    · exact stripRequest_bounds ..
    · exact enterPassList_bounds ..
    · exact enterPassList_bounds ..
  · exact dropDamaged_bounds ..

theorem stripPackets_bounds (ps : List (List Word)) : Bounds 8 8 s (ps.foldl (stripPacket n) s) := by
  induction ps generalizing s with
  | nil => exact Bounds.refl ..
  | cons p ps ih => exact (stripPacket_bounds s n p).trans (ih _)

theorem stripLine_bounds (j : Nat) (blanking : List Word) : Bounds 8 8 s (stripLine n j blanking s) := by
  have hbegin : Bounds 8 8 s (beginPassList n s) := Bounds.modifyLane id
  exact (hbegin.trans (stripPackets_bounds ..)).trans (Bounds.modifyLane id)

theorem evaluateGroups_bounds : Bounds a a s (evaluateGroups n s) := by
  refine Bounds.trans (Bounds.updateSome fun i x h => ?_) (Bounds.modifyLane id)
  split
  · exact becomePresent_sound h
  · exact becomeAbsent_sound h

/-! ### Lane loss (R14, R15) -/

theorem fallBack_fifosFit {x : Port} (h : x.fifosFit) : (fallBack n x).fifosFit := by
  unfold fallBack
  split
  · exact clockSamples_fifosFit h 0
  · exact h

theorem applyAtLoss_bounds : Bounds 8 8 s (applyAtLoss n s) := by
  unfold applyAtLoss
  split
  · exact applyTake_bounds ..
  · exact Bounds.refl ..

/-- A lost lane's carry queues are empty, its sources absent and its replies gone (R14, R15, R166). -/
theorem laneLoss_bounds (state : InputState) (format : Option Format) : Bounds 8 8 s (laneLoss n state format s) := by
  have hlane : Bounds 8 8 s (s.modifyLane n (loseLane state format)) :=
    Bounds.modifyLane fun _ => queuesFit_of_empty rfl
  have habsent := (hlane.trans (setGroups_bounds n fun _ => false)).trans (absentLane_bounds n)
  have hlost : Bounds 8 8 s (lostState n state format s) :=
    habsent.trans (Bounds.trans .of (Bounds.updatePorts fun _ _ => fallBack_fifosFit n))
  have hcounted (u : State) : Bounds 8 8 u (purgeLane n u) :=
    Bounds.trans (Bounds.modifyLane id) (Bounds.shorten (purgeReplies_length_le (laneScope n) u.replies))
  exact (hlost.trans (applyAtLoss_bounds ..)).trans (hcounted _)

/-! ### Signal, frame starts and carriage lines (R1 to R9, R139) -/

theorem inputFrameStart_bounds : Bounds a a s (inputFrameStart n s) := by
  unfold inputFrameStart
  split
  · exact .of
  · exact Bounds.refl ..

theorem acquireLane_queuesFit {l : Lane} (h : l.queuesFit) : (acquireLane l).queuesFit := by
  unfold acquireLane
  split <;> exact h

theorem setSignal_bounds (on : Bool) : Bounds a a s (setSignal n on s) := Bounds.modifyLane id

theorem bypassLine_bounds (blanking : List Word) : Bounds a a s (bypassLine n blanking s) := Bounds.modifyLane id

theorem openFrame_bounds : Bounds a a s (openFrame n s) := Bounds.modifyLane id

theorem signalLost_bounds : Bounds 8 8 s (signalLost n s) := by
  unfold signalLost
  split
  · exact Bounds.refl ..
  · exact Bounds.modifyLane id
  · exact (laneLoss_bounds ..).trans (Bounds.modifyLane id)

theorem lockLane_bounds : Bounds a a s (lockLane n s) := by
  refine Bounds.trans (Bounds.modifyLane id) (Bounds.updatePorts fun _ x h => ?_)
  unfold takeUpClock
  split <;> exact h

theorem closeAcquiring_bounds (format : Option Format) : Bounds a a s (closeAcquiring n format s) := by
  unfold closeAcquiring
  split
  · exact ((openFrame_bounds ..).trans (lockLane_bounds ..)).trans (inputFrameStart_bounds ..)
  · exact (openFrame_bounds ..).trans (Bounds.modifyLane id)

theorem closeLocked_bounds (format : Option Format) : Bounds 8 8 s (closeLocked n format s) := by
  unfold closeLocked
  split
  · exact ((evaluateGroups_bounds ..).trans (openFrame_bounds ..)).trans (inputFrameStart_bounds ..)
  · exact (laneLoss_bounds ..).trans (openFrame_bounds ..)

theorem frameStart_bounds (timing : Option Format) : Bounds 8 8 s (frameStart n timing s) := by
  unfold frameStart
  dsimp only
  split
  · exact Bounds.refl ..
  · split
    · exact closeAcquiring_bounds ..
    · exact openFrame_bounds ..
  · split
    · exact closeLocked_bounds ..
    · exact openFrame_bounds ..

theorem longFrame_bounds : Bounds 8 8 s (longFrame n s) := by
  unfold longFrame
  split
  · exact (laneLoss_bounds ..).trans (Bounds.modifyLane id)
  · exact Bounds.trans (Bounds.modifyLane (f := fun l => { l with format := none }) id) (Bounds.modifyLane id)

theorem countedLine_bounds (blanking : List Word) : Bounds 8 8 s (countedLine n blanking s) := by
  have hcount : Bounds 8 8 s (s.modifyLane n fun l => { l with lineCount := l.lineCount + 1 }) := Bounds.modifyLane id
  unfold countedLine
  dsimp only
  split
  · exact hcount.trans (stripLine_bounds ..)
  · exact hcount.trans (bypassLine_bounds ..)

theorem carriageLine_bounds (blanking : List Word) : Bounds 8 8 s (carriageLine n blanking s) := by
  unfold carriageLine
  dsimp only
  split
  · exact Bounds.refl ..
  split
  · exact bypassLine_bounds ..
  split
  · exact countedLine_bounds ..
  · exact (longFrame_bounds ..).trans (bypassLine_bounds ..)

/-! ### Boundaries and the build of a line (R7, R73, R108 to R115) -/

theorem boundary_bounds (scope : Iface) {between : State → State} (h : ∀ u, Bounds 8 8 u (between u)) :
    Bounds 8 8 s (boundary scope between s) := by
  cases hp : pendingOn s scope with
  | none =>
    rw [boundary_none hp]
    exact ((settleScope_bounds scope).trans (h _)).trans .of
  | some t =>
    rw [boundary_some hp]
    exact ((applyTake_bounds none t).trans (h _)).trans .of

theorem setPhase_bounds : Bounds a a s (setPhase n s) := by
  refine Bounds.of (lanes := fun m => ?_)
  simp only [setPhase, modifyAt_getElem]
  split
  next hm => subst hm; exact id
  next => exact id

theorem outputFrameStart_bounds : Bounds 8 8 s (outputFrameStart n s) := by
  unfold outputFrameStart
  split
  · exact boundary_bounds _ _ fun _ => setPhase_bounds ..
  · exact Bounds.refl ..

/-- A carry queue keeps at most its 8 newest instants (R108). -/
theorem gainInstants_length_le (queue gained : List Instant) : (gainInstants queue gained).length ≤ 8 := by
  rw [gainInstants, overrunOf, List.length_drop, List.length_append]
  omega

theorem lineReads_bounds (count : Nat) : Bounds a a s (lineReads n count s) := by
  refine Bounds.trans .of (Bounds.modifyLane fun _ g => ?_)
  rw [updateAll_getElem_fin]
  exact gainInstants_length_le ..

theorem offerReply_length_le (replies : List Reply) (f : LineFill) : (offerReply n replies f).1.length ≤ replies.length := by
  unfold offerReply
  split
  · split
    · exact dropOldestReply_length_le ..
    · exact Nat.le_refl _
  · exact Nat.le_refl _

theorem lowClass_length_le (l : Lane) (passList : List PassEntry) (replies : List Reply) (f : LineFill) :
    (lowClass n l passList replies f).replies.length ≤ replies.length := by
  unfold lowClass
  split <;> exact offerReply_length_le ..

theorem placeLine_bounds (b : AwaitingBuild) : Bounds a a s (placeLine n b s) := by
  refine Bounds.of (lanes := fun m h => ?_) (replies := (lowClass_length_le ..).trans)
  by_cases hm : m = n
  · subst hm
    intro g
    obtain ⟨k, hk⟩ := placedGroups_drop m b s g
    rw [placeLine_lane]
    calc ((placedGroups m b s).1[g]).length
        = ((s.lanes[m]).queues[g]).length - k := by rw [hk, List.length_drop]
      _ ≤ 8 := (Nat.sub_le ..).trans (h g)
  · rwa [placeLine_lane_ne _ _ _ hm]

theorem laneSamples_bounds (count : Nat) : Bounds a a s (laneSamples n count s) := by
  refine Bounds.updatePorts fun _ x h => ?_
  split
  · exact clockSamples_fifosFit h count
  · exact h

theorem outputLineBuild_bounds : Bounds a a s (outputLineBuild n s) := by
  unfold outputLineBuild
  split
  · exact ((lineReads_bounds ..).trans (placeLine_bounds ..)).trans (laneSamples_bounds ..)
  · exact Bounds.refl ..

end

/-! ### The receive side of a port (R122 to R127) -/

section
variable {a : Nat} (s : State) (p : PortIx)

theorem receiveWord_bounds (w : PortWord) : Bounds a a s (s.modifyPort p (receiveWord w)) := by
  refine Bounds.modifyPort fun h => ?_
  unfold receiveWord
  split
  next hroom =>
    refine ⟨?_, h.2⟩
    rw [List.length_append]
    exact hroom.2
  next => exact h

theorem setStaging_bounds (g : Staging) : Bounds a a s (setStaging p g s) := Bounds.modifyPort id

theorem countDiscard_bounds : Bounds a a s (countDiscard p s) := Bounds.modifyPort id

theorem goodBundle_bounds (c : ChanIx) (count : Byte) (n : Nat) (body : List Word) :
    Bounds a a s (goodBundle p c count n body s) := by
  refine Bounds.trans (Bounds.updateChannel fun track x h => ?_) (Bounds.modifyPort id)
  exact becomePresent_sound (appendSamples_sound h (bodySamples n body track))

theorem judgeBundle_bounds (channel : Nat) (count : Byte) (n : Nat) (words : List Word) (length : Nat) :
    Bounds 8 8 s (judgeBundle p channel count n words length s) := by
  unfold judgeBundle
  split
  · split
    · exact goodBundle_bounds ..
    · exact countDiscard_bounds ..
  split
  · split
    · unfold controlBundleTaken
      split
      · exact handOver_bounds ..
      · exact Bounds.refl ..
    · exact countDiscard_bounds ..
  · exact countDiscard_bounds ..

theorem stageWord_bounds (w : PortWord) : Bounds 8 8 s (stageWord p w s) := by
  have hdiscard (g : Staging) : Bounds 8 8 s (setStaging p g (countDiscard p s)) :=
    (countDiscard_bounds ..).trans (setStaging_bounds ..)
  unfold stageWord
  split
  · unfold stageIdle
    split
    · split
      · exact setStaging_bounds ..
      · exact Bounds.refl ..
    · exact Bounds.refl ..
  · unfold stageHeader
    split
    · split
      · exact hdiscard _
      · exact hdiscard _
    · exact setStaging_bounds ..
  · unfold stageBody
    split
    · split
      · exact hdiscard _
      · exact (setStaging_bounds ..).trans (judgeBundle_bounds ..)
      · exact (setStaging_bounds ..).trans (countDiscard_bounds ..)
    · exact setStaging_bounds ..

theorem takeStagingWord_bounds : Bounds 8 8 s (takeStagingWord p s) := by
  unfold takeStagingWord
  split
  next w rest _ hfifo =>
    refine Bounds.trans (Bounds.modifyPort fun h => ⟨?_, h.2⟩) (stageWord_bounds _ p w)
    have hlength := h.1
    rw [hfifo] at hlength
    exact (Nat.le_succ _).trans hlength
  next => exact Bounds.refl ..

theorem absenceTimeout_bounds (c : ChanIx) : Bounds a a s (absenceTimeout p c s) :=
  Bounds.trans (Bounds.updateChannel fun _ _ => becomeAbsent_sound) (Bounds.modifyPort id)

/-! ### The transmit side of a port (R129 to R135) -/

theorem portFrame_bounds : Bounds 8 8 s (portFrame p s) := by
  have hdue : Bounds 8 8 s (s.modifyPort p fun x => { x with frameDue := false }) := Bounds.modifyPort id
  exact (hdue.trans (boundary_bounds _ _ fun _ => Bounds.refl ..)).trans (Bounds.modifyPort (clockSamples_fifosFit · 0))

/-- What is written of a sound bundle has room (R134). -/
theorem fitBundle_length_le {bundle : List PortWord} (h : bundle.length = 259) (free : Nat) :
    (fitBundle free bundle).length ≤ free := by
  unfold fitBundle
  split
  · omega
  split
  · rw [List.length_append, List.length_take, List.length_singleton]
    omega
  · exact Nat.zero_le _

theorem writeBundle_fifosFit {x : Port} (h : x.fifosFit) {bundle : List PortWord} (hb : bundle.length = 259) :
    (writeBundle bundle x).fifosFit := by
  have hfit := fitBundle_length_le hb (2048 - x.outFifo.length)
  obtain ⟨hin, hout⟩ := h
  refine ⟨hin, ?_⟩
  calc (x.outFifo ++ fitBundle (2048 - x.outFifo.length) bundle).length
      = x.outFifo.length + (fitBundle (2048 - x.outFifo.length) bundle).length := List.length_append
    _ ≤ 2048 := by omega

theorem writeChannels_fifosFit {x : Port} (h : x.fifosFit) : (writeChannels s p x).fifosFit := by
  unfold writeChannels
  induction List.finRange 4 generalizing x with
  | nil => exact h
  | cons c cs ih =>
    refine ih (x := writeChannel s p x c) ?_
    unfold writeChannel
    split
    · exact writeBundle_fifosFit h (soundBundle_length c _ (periodSamples_length s p c))
    · exact h

theorem writeReply_bounds : Bounds a a s (writeReply p s) := by
  unfold writeReply
  split
  next r _ =>
    split
    next hroom =>
      refine Bounds.trans (Bounds.modifyPort fun h => ⟨h.1, ?_⟩)
        (Bounds.shorten (dropOldestReply_length_le (portScope p) s.replies))
      have hout := h.2
      rw [freePlaces] at hroom
      rw [List.length_append]
      omega
    next => exact Bounds.refl ..
  next => exact Bounds.refl ..

theorem portPeriod_bounds : Bounds a a s (portPeriod p s) := by
  unfold portPeriod
  split
  · have hwritten : Bounds a a s ((periodReads p s).modifyPort p (writeChannels s p)) :=
      Bounds.trans (t := periodReads p s) .of (Bounds.modifyPort (writeChannels_fifosFit s p))
    exact (hwritten.trans (writeReply_bounds ..)).trans (Bounds.modifyPort id)
  · exact Bounds.modifyPort id
  · exact Bounds.refl ..

theorem stallPort_bounds : Bounds a a s (stallPort p s) := by
  unfold stallPort
  split
  · exact (haltTransmit_bounds ..).trans (Bounds.modifyPort id)
  · exact Bounds.refl ..

theorem giveWord_bounds : Bounds a a s (s.modifyPort p giveWord) := by
  refine Bounds.modifyPort fun h => ?_
  unfold giveWord
  split
  · exact h
  next w rest hfifo =>
    have hlength := h.2
    rw [hfifo] at hlength
    exact ⟨h.1, (Nat.le_succ _).trans hlength⟩

/-! ### The station clock and power-on reset (R127, R129, R154, R173) -/

theorem stationSample_bounds : Bounds a a s (stationSample s) := by
  refine Bounds.of (ports := fun p h => ?_)
  simp only [stationSample, updateAll_getElem_fin]
  unfold tickPort
  dsimp only
  split <;> exact h

theorem releaseReset_bounds (straps : Straps) : Bounds a a s (releaseReset straps s) := by
  refine Bounds.of (sources := fun i _ => ?_) (lanes := fun n _ => ?_) (ports := fun p _ => ?_) (undo := fun i _ => ?_)
    (replies := fun _ => Nat.zero_le _)
  · rw [show (releaseReset straps s).sources[i] = Source.powerOn by simp [releaseReset, State.powerOn]]
    exact powerOn_sound
  · rw [show (releaseReset straps s).lanes[n] = releaseLane s.lanes[n] from updateAll_getElem_fin ..]
    unfold releaseLane
    split
    · exact acquireLane_queuesFit (queuesFit_of_empty rfl)
    · exact queuesFit_of_empty rfl
  · rw [show (releaseReset straps s).ports[p] = Port.powerOn by simp [releaseReset, State.powerOn]]
    exact ⟨Nat.zero_le _, Nat.zero_le _⟩
  · simp [releaseReset, State.powerOn]

end

end Sys2Proof.Machine
end

section
/-! Every command and every step keep the source records and the queues within their bounds: O55. -/

namespace Sys2Proof.Machine

section
variable {s t : State}

theorem powered_bounds {f : State → State} (h : Bounds 8 8 s (f s)) (ht : powered s f = .next t) : Bounds 8 8 s t := by
  cases ht
  split
  · exact Bounds.refl ..
  · exact h

/-- While power-on reset is held no command but the release moves more than link pins (R17; log entry 3). -/
theorem held_bounds {c : Instr} (hs : s.resetHeld = true) (hc : ∀ u role lane, c ≠ .powerOnResetRelease u role lane)
    (ht : exec c s = .next t) : Bounds 8 8 s t := by
  obtain ⟨u, hu, hframe, hlanes⟩ := (powerOnResetHoldsBypass s).2.2 hs c hc
  rw [hu] at ht
  cases ht
  rw [hframe]
  refine Bounds.of (lanes := fun n => ?_)
  dsimp only
  rw [hlanes]
  exact id

/-- A request row is the control unit's taking of its request (R25, R163). -/
theorem request_bounds {c : Instr} {q : Request} (hq : requestOf c = some q) (ht : exec c s = .next t) : Bounds 8 8 s t := by
  cases hs : s.resetHeld with
  | true => exact held_bounds hs (fun _ _ _ e => by subst e; cases hq) ht
  | false =>
    obtain ⟨kind, -, hexec | ⟨-, hexec⟩⟩ := exec_request_cases hs hq <;> rw [hexec] at ht <;> cases ht
    · exact takeRequest_bounds ..
    · exact withRoom_bounds (queueReply_bounds ..)

theorem linkSignalAppears_bounds {n : LaneIx} (ht : execLinkSignalAppears n s = .next t) : Bounds 8 8 s t := by
  unfold execLinkSignalAppears at ht
  split at ht <;> cases ht
  · exact setSignal_bounds ..
  · exact (setSignal_bounds ..).trans (Bounds.modifyLane acquireLane_queuesFit)

theorem linkSignalLost_bounds {n : LaneIx} (ht : execLinkSignalLost n s = .next t) : Bounds 8 8 s t := by
  unfold execLinkSignalLost at ht
  split at ht <;> cases ht
  · exact (setSignal_bounds ..).trans (Bounds.modifyLane id)
  · exact (setSignal_bounds ..).trans (signalLost_bounds ..)

theorem inputCarriageLine_bounds {n : LaneIx} {blanking : List Word} (ht : execInputCarriageLine n blanking s = .next t) :
    Bounds 8 8 s t := by
  unfold execInputCarriageLine at ht
  split at ht <;> cases ht
  · split
    · exact bypassLine_bounds ..
    · exact Bounds.refl ..
  · exact carriageLine_bounds ..

theorem execPortPeriod_bounds {p : PortIx} (ht : execPortPeriod p s = .next t) : Bounds 8 8 s t :=
  powered_bounds (f := fun s => portPeriod p (s.modifyPort p fun x => { x with periodDue := false }))
    (Bounds.trans (Bounds.modifyPort id) (portPeriod_bounds ..)) ht

theorem takeExpiry_bounds (ht : execTakeExpiry s = .next t) : Bounds 8 8 s t := by
  refine powered_bounds ?_ ht
  split
  · split
    · exact .of
    · exact Bounds.refl ..
  · exact Bounds.refl ..

/-- Every command keeps the bounds. -/
theorem exec_bounds (c : Instr) (ht : exec c s = .next t) : Bounds 8 8 s t := by
  cases hq : requestOf c with
  | some q => exact request_bounds hq ht
  | none =>
    cases c with
    | powerOnResetAssert => cases ht; exact .of
    | powerOnResetRelease u role lane => cases ht; exact releaseReset_bounds ..
    | linkSignalAppears n => exact linkSignalAppears_bounds ht
    | linkSignalLost n => exact linkSignalLost_bounds ht
    | frameStart n timing => exact powered_bounds (frameStart_bounds ..) ht
    | inputCarriageLine n blanking => exact inputCarriageLine_bounds ht
    | outputFrameStart n => exact powered_bounds (outputFrameStart_bounds ..) ht
    | outputLineBuild n => exact powered_bounds (outputLineBuild_bounds ..) ht
    | portWordReceived p w => exact powered_bounds (f := fun s => s.modifyPort p (receiveWord w)) (receiveWord_bounds ..) ht
    | stagingWordTaken p => exact powered_bounds (takeStagingWord_bounds ..) ht
    | channelAbsenceTimeout p c => exact powered_bounds (absenceTimeout_bounds ..) ht
    | portFrame p => exact powered_bounds (portFrame_bounds ..) ht
    | portPeriod p => exact execPortPeriod_bounds ht
    | transmitStall p => exact powered_bounds (stallPort_bounds ..) ht
    | outFifoWordTaken p => exact powered_bounds (f := fun s => s.modifyPort p giveWord) (giveWord_bounds ..) ht
    | takeExpiry => exact takeExpiry_bounds ht
    | _ => cases hq

theorem idleStep_bounds (ht : idleStep s = .next t) : Bounds 8 8 s t := by
  unfold idleStep at ht
  split at ht
  · cases ht
    exact Bounds.refl ..
  · split at ht
    · exact exec_bounds _ ht
    · cases ht
      exact stationSample_bounds s

theorem step_bounds (ht : step s = .next t) : Bounds 8 8 s t := by
  unfold step at ht
  split at ht
  next c rest _ => exact Bounds.trans (t := { s with pending := rest }) .of (exec_bounds c ht)
  next => exact idleStep_bounds ht

end

/-- Settles O55: every command's change keeps each source record and each queue. -/
theorem stepKeepsSourcesAndQueues : Obligations.StepKeepsSourcesAndQueues := fun _ _ h =>
  ⟨(step_bounds h).sourcesSound, (step_bounds h).queuesBounded⟩

end Sys2Proof.Machine
end

section
/-! The absence timeout of a channel and SET PORT (R60, R61, R84, R85, R127, R128, R131, R166): O36, O45. -/

namespace Sys2Proof.Machine

/-! ### A due step on an empty queue (log entry 2) -/

/-- The channels below c, then c, then those above it. -/
theorem finRange_split : ∀ c : ChanIx, List.finRange 4 =
    (List.finRange 4).filter (fun b => decide (b < c)) ++ c :: (List.finRange 4).filter fun b => decide (c < b) := by
  decide

/-- The timeout of the lowest channel whose expiry has fallen due is the first of a port's due steps. -/
theorem portDue_timeout {p : PortIx} {c : ChanIx} {x : Port} (hdue : x.absenceDue[c] = true)
    (hbelow : ∀ b : ChanIx, b < c → x.absenceDue[b] = false) : ∃ rest, portDue p x = .channelAbsenceTimeout p c :: rest := by
  have hnone : ((List.finRange 4).filter fun b => decide (b < c)).filter (fun b => x.absenceDue[b]) = [] := by
    rw [List.filter_eq_nil_iff]
    intro b hb
    rw [hbelow b (of_decide_eq_true (List.mem_filter.1 hb).2)]
    exact Bool.false_ne_true
  rw [portDue, finRange_split c, List.filter_append, hnone, List.filter_cons_of_pos (p := fun b => x.absenceDue[b]) hdue]
  exact ⟨_, rfl⟩

/-- On an empty queue the first due step of a port is taken, of the second port only when the first has none. -/
theorem step_portDue {p : PortIx} {s : State} (hs : s.resetHeld = false) (hpending : s.pending = [])
    (hfirst : p = 1 → portDue 0 s.ports[0] = []) {c : Instr} {rest : List Instr}
    (hdue : portDue p s.ports[p] = c :: rest) : step s = exec c s := by
  have hsteps : ∃ more, dueSteps s = c :: more := by
    by_cases hp : p = 0
    · subst hp
      exact ⟨_, congrArg (fun l => l ++ portDue 1 s.ports[1] ++ takeDue s.take) hdue⟩
    · obtain rfl := Fin.eq_one_of_ne_zero p hp
      exact ⟨_, by rw [dueSteps, hfirst rfl]; exact congrArg (· ++ takeDue s.take) hdue⟩
  obtain ⟨more, hmore⟩ := hsteps
  simp only [step, hpending, idleStep, hs, Bool.false_eq_true, if_false, hmore]

/-! ### The absence timeout (R127) -/

theorem absenceTimeout_source (p : PortIx) (c : ChanIx) (s : State) (i : SourceIx) :
    (absenceTimeout p c s).sources[i] =
      if i.val / 8 = 16 + 4 * p.val + c.val then becomeAbsent s.sources[i] else s.sources[i] := by
  split
  next hi =>
    exact updateChannel_source p c (fun _ x => becomeAbsent x) s ⟨i.val % 8, Nat.mod_lt _ (by decide)⟩
      (by dsimp only; omega)
  next hi => exact updateChannel_source_ne p c (fun _ x => becomeAbsent x) s hi

/-- Settles O36: the timer by whether a bundle has restarted it, the sources by their channel. -/
theorem absenceTimeoutEndsPresence : Obligations.AbsenceTimeoutEndsPresence := by
  intro p c s hs
  have hexec : exec (.channelAbsenceTimeout p c) s = .next (absenceTimeout p c s) := powered_on hs _
  refine ⟨absenceTimeout p c s, hexec, rfl, fun hpending hfirst hdue hbelow => ?_, rfl, fun i => ?_⟩
  · obtain ⟨rest, hrest⟩ := portDue_timeout (p := p) hdue hbelow
    rw [step_portDue hs hpending hfirst hrest, hexec]
  · rw [absenceTimeout_source]
    split
    · exact becomeAbsent_lostFrom _
    · rfl

/-! ### The two sides of a port (R128, R131) -/

theorem purgeReplies_port (p : PortIx) (rs : List Reply) :
    purgeReplies (portScope p) rs = rs.filter fun r => decide (r.iface.val ≠ 8 + p.val) := by
  simp only [purgeReplies, ne_eq, eq_portScope_iff]

theorem absentPort_source (p : PortIx) (s : State) (i : SourceIx) :
    (absentPort p s).sources[i] = if i.val / 32 = 4 + p.val then becomeAbsent s.sources[i] else s.sources[i] := by
  refine (updateAll_getElem_fin ..).trans ?_
  simp only [trackPlace_eq_port_iff]

/-- A port whose receive side is enabled, or stopped where it was enabled (R128). -/
def Port.receiving (enable : Bool) (x : Port) : Port :=
  if x.receiveEnable && !enable then stopReceive x else { x with receiveEnable := enable }

/-- A port whose transmit side is stopped where it was not DISABLED, or enabled where it was (R131). -/
def Port.transmitting (enable : Bool) (x : Port) : Port :=
  if !enable && decide (x.transmit ≠ .disabled) then { x with transmit := .disabled, running := Vector.replicate 4 false }
  else if enable = true ∧ x.transmit = .disabled then { x with transmit := .running, stallTimer := 0 }
  else x

theorem Port.receiving_transmit (enable : Bool) (x : Port) : (x.receiving enable).transmit = x.transmit := by
  unfold Port.receiving
  split <;> rfl

section
variable (p : PortIx) (enable : Bool) (s : State)

/-- SET PORT's receive part reaches the port, its sources and its replies, the latter two where the side stops (R60, R128,
R166). -/
theorem setReceive_eq :
    setReceive p enable s =
      { s.putPort p ((s.ports[p]).receiving enable) with
        sources := if (s.ports[p]).receiveEnable && !enable then (absentPort p s).sources else s.sources
        replies := if (s.ports[p]).receiveEnable && !enable then purgeReplies (portScope p) s.replies else s.replies } := by
  have hstays (x : Port) (h : x.receiveEnable = enable) : { x with receiveEnable := enable } = x := by rw [← h]
  unfold setReceive Port.receiving
  cases enable with
  | true => simp only [if_true, Bool.not_true, Bool.and_false, Bool.false_eq_true, if_false]; rfl
  | false =>
    cases hr : (s.ports[p]).receiveEnable with
    | true => simp only [Bool.false_eq_true, if_false, if_true, Bool.not_false, Bool.and_self]; rfl
    | false =>
      simp only [Bool.false_eq_true, if_false, Bool.false_and, hstays _ hr, State.putPort_self]

/-- SET PORT's transmit part reaches the port, and its destinations where the side stops (R84, R131). -/
theorem setTransmit_eq :
    setTransmit p enable s =
      { s.putPort p ((s.ports[p]).transmitting enable) with
        dests := if !enable && decide ((s.ports[p]).transmit ≠ .disabled) then (setChannels p (fun _ => false) s).dests
          else s.dests } := by
  have hhalt : haltTransmit p .disabled s =
      { s.putPort p { s.ports[p] with transmit := .disabled, running := Vector.replicate 4 false } with
        dests := (setChannels p (fun _ => false) s).dests } := by
    simp only [haltTransmit, setChannels, State.modifyPort_eq_putPort, four_const]
    simp [stopDests, State.updateDests, State.putPort]
  have hself : { s.putPort p s.ports[p] with dests := s.dests } = s := by rw [State.putPort_self]
  unfold setTransmit Port.transmitting
  cases enable with
  | true =>
    simp only [Bool.not_true, Bool.false_and, Bool.false_eq_true, if_false, true_and]
    cases ht : (s.ports[p]).transmit with
    | disabled => simp only [if_true]; rfl
    | running => simp only [reduceCtorEq, if_false]; exact hself.symm
    | stalled => simp only [reduceCtorEq, if_false]; exact hself.symm
  | false =>
    simp only [Bool.not_false, Bool.true_and, decide_eq_true_eq, Bool.false_eq_true, false_and, if_false]
    cases ht : (s.ports[p]).transmit with
    | disabled => simp only [ne_eq, not_true, if_false]; exact hself.symm
    | running => simp only [ne_eq, reduceCtorEq, not_false_eq_true, if_true]; exact hhalt
    | stalled => simp only [ne_eq, reduceCtorEq, not_false_eq_true, if_true]; exact hhalt

/-- Both parts, one after the other. -/
theorem setSides_eq (receive transmit : Bool) :
    setTransmit p transmit (setReceive p receive s) =
      { s.putPort p (((s.ports[p]).receiving receive).transmitting transmit) with
        sources := if (s.ports[p]).receiveEnable && !receive then (absentPort p s).sources else s.sources
        dests := if !transmit && decide ((s.ports[p]).transmit ≠ .disabled) then (setChannels p (fun _ => false) s).dests
          else s.dests
        replies := if (s.ports[p]).receiveEnable && !receive then purgeReplies (portScope p) s.replies else s.replies } := by
  have hport : (setReceive p receive s).ports[p] = (s.ports[p]).receiving receive := by
    rw [setReceive_eq]
    exact State.putPort_port s p _
  rw [setTransmit_eq, hport, Port.receiving_transmit, setReceive_eq]
  simp [State.putPort, setChannels, stopDests]

variable (receive transmit : Bool)

theorem setSides_source (k : SourceIx) :
    (setTransmit p transmit (setReceive p receive s)).sources[k] =
      if ((s.ports[p]).receiveEnable && !receive) = true ∧ k.val / 32 = 4 + p.val then becomeAbsent s.sources[k]
      else s.sources[k] := by
  rw [setSides_eq]
  dsimp only
  by_cases hstop : ((s.ports[p]).receiveEnable && !receive) = true
  · rw [if_pos hstop, absentPort_source]
    simp only [hstop, true_and]
  · rw [if_neg hstop, if_neg fun h => hstop h.1]

theorem setSides_dest (d : DestIx) :
    (setTransmit p transmit (setReceive p receive s)).dests[d] =
      if (!transmit && decide ((s.ports[p]).transmit ≠ .disabled)) = true ∧ d.val / 32 = 4 + p.val then
        stopRecord s.dests[d]
      else s.dests[d] := by
  rw [setSides_eq]
  dsimp only
  by_cases hstop : (!transmit && decide ((s.ports[p]).transmit ≠ .disabled)) = true
  · rw [if_pos hstop, setChannels_dests]
    simp only [hstop, true_and, and_true, trackPlace_eq_port_iff]
  · rw [if_neg hstop, if_neg fun h => hstop h.1]

end

/-! ### SET PORT -/

theorem getLsbD_eq_decide (w : Word) (k : Nat) : w.getLsbD k = decide (w.toNat / 2 ^ k % 2 = 1) := by
  rw [BitVec.getLsbD, Nat.testBit_eq_decide_div_mod_eq]

theorem exec_setPort {s : State} (hs : s.resetHeld = false) (hroom : s.replies.length < 8) (i : Iface) (tag enables : Word)
    (p : PortIx) :
    exec (.setPort i tag [BitVec.ofNat 16 p.val, enables]) s = .next (queueReply i .done tag 0x12 []
      (setTransmit p (enables.getLsbD 1) (setReceive p (enables.getLsbD 0) s))) := by
  have hexec : exec (.setPort i tag [BitVec.ofNat 16 p.val, enables]) s =
      powered s (setPort i tag [BitVec.ofNat 16 p.val, enables]) := rfl
  rw [hexec, powered_on hs, setPort, withRoom_free hroom]
  simp only [readIndex_ofNat (n := 2) (by decide) p]

/-- Settles O45: both sides, each with what its stop reaches, then the reply. -/
theorem portIsSet : Obligations.PortIsSet := by
  intro i tag enables p s hs hroom receive transmit x stopsReceive stopsTransmit y z kept
  have hreceive : enables.getLsbD 0 = receive := (getLsbD_eq_decide enables 0).trans (by simp [receive])
  have htransmit : enables.getLsbD 1 = transmit := getLsbD_eq_decide enables 1
  have hz : (x.receiving receive).transmitting transmit = z := by
    simp only [Port.transmitting, Port.receiving_transmit]
    rfl
  have hexec := exec_setPort hs hroom i tag enables p
  have hset := setSides_eq p s receive transmit
  rw [hz] at hset
  rw [hreceive, htransmit, queueReply_eq_answer] at hexec
  refine ⟨_, hexec, ?_, ?_, fun k => ?_, fun d => ?_⟩
  · rw [hset]
    rfl
  · rw [hset]
    simp only [State.answer, purgeReplies_port]
    rfl
  · have hsource := setSides_source p s receive transmit k
    split
    next hstop =>
      rw [if_pos hstop] at hsource
      exact hsource ▸ becomeAbsent_lostFrom s.sources[k]
    next hstop => exact hsource.trans (if_neg hstop)
  · have hdest := setSides_dest p s receive transmit d
    split
    next hstop =>
      rw [if_pos hstop] at hdest
      exact hdest ▸ stopRecord_stoppedFrom s.dests[d]
    next hstop => exact hdest.trans (if_neg hstop)

end Sys2Proof.Machine
end

section
/-! One read of a destination (R57, R78 to R82, R88, R91 to R98): O26. -/

namespace Sys2Proof.Machine

/-! ### The blend of two samples (R96) -/

/-- A mix of two samples by weights that sum to 32 is a sample: the blend is exact. -/
theorem blend_toInt {k : Nat} (hk : k ≤ 32) (old new : Sample) :
    (blend k old new).toInt = (old.toInt * (32 - (k : Int)) + new.toInt * (k : Int) + 16) / 32 := by
  have hold : -8388608 ≤ old.toInt ∧ old.toInt ≤ 8388607 := ⟨BitVec.le_toInt old, Int.le_of_lt_add_one BitVec.toInt_lt⟩
  have hnew : -8388608 ≤ new.toInt ∧ new.toInt ≤ 8388607 := ⟨BitVec.le_toInt new, Int.le_of_lt_add_one BitVec.toInt_lt⟩
  have hweight : (0 : Int) ≤ 32 - k := by omega
  have hlow := mul_le_mul_of_nonneg_right hold.1 hweight
  have hhigh := mul_le_mul_of_nonneg_right hold.2 hweight
  have hlow' := mul_le_mul_of_nonneg_right hnew.1 (Int.natCast_nonneg k)
  have hhigh' := mul_le_mul_of_nonneg_right hnew.2 (Int.natCast_nonneg k)
  unfold blend
  exact BitVec.toInt_ofInt_eq_self (by decide) (by omega) (by omega)

/-- At k = 0 the blend is the old sample. -/
theorem blend_zero (old new : Sample) : blend 0 old new = old := by
  refine BitVec.eq_of_toInt_eq ?_
  rw [blend_toInt (by decide)]
  omega

/-! ### One value of a stream (R80, R81, R92 to R95, R98) -/

theorem absenceValue_eq (e : RouteEntry) (lastOut : Sample) :
    absenceValue e lastOut = if e.absenceFill = .hold then lastOut else 0 := by
  unfold absenceValue
  cases e.absenceFill <;> rfl

theorem gainAndMute_polarity (st : SourceStream) (v : Sample) :
    gainAndMute st.gain st.mute (polarity st.invert v) =
      if st.mute then 0 else applyGain st.gain (if st.invert then polarity true v else v) := by
  rw [gainAndMute]
  cases st.invert <;> rfl

/-- A read of a stream, as the statements write it, and whether it starved. -/
def Yield.ofRead (read : Stream × OutSample) (starved : Bool) : Yield where
  stream := some read.1
  value := read.2.value
  valid := read.2.valid
  starved := starved

section
variable {sources : Vector Source 192} {e : RouteEntry} {lastOut : Sample} {st : SourceStream}

theorem yieldSource_starved (h : st.fillIn sources = 0) :
    yieldSource sources[st.source] e lastOut st = {
      stream := some (.source { st with lastYield := some (absenceValue e lastOut) })
      value := absenceValue e lastOut, valid := false, starved := true } :=
  if_pos h

theorem yieldSource_stored (h : st.fillIn sources ≠ 0) :
    let v := gainAndMute st.gain st.mute (polarity st.invert (storedSample sources[st.source] st))
    yieldSource sources[st.source] e lastOut st = {
      stream := some (.source { st with readCount := st.readCount + 1, lastYield := some v })
      value := v, valid := true, starved := false } :=
  if_neg h

theorem readBy_starved (h : st.fillIn sources = 0) :
    (Stream.source st).readBy sources e lastOut =
      (.source { st with lastYield := some (absenceValue e lastOut) }, ⟨absenceValue e lastOut, false⟩) := by
  rw [absenceValue_eq]
  exact if_pos h

theorem readBy_stored (h : st.fillIn sources ≠ 0) (hlap : st.fillIn sources ≤ 8191) :
    let v := gainAndMute st.gain st.mute (polarity st.invert (storedSample sources[st.source] st))
    (Stream.source st).readBy sources e lastOut =
      (.source { st with readCount := st.readCount + 1, lastYield := some v }, ⟨v, true⟩) :=
  (if_neg h).trans (if_pos hlap)

theorem readBy_lapped (hlap : 8191 < st.fillIn sources) :
    (Stream.source st).readBy sources e lastOut = (.fill (.hold (lapHold st)), ⟨lapHold st, false⟩) :=
  (if_neg (show ¬ st.fillIn sources = 0 by omega)).trans (if_neg (Nat.not_le.2 hlap))

/-- Below a lap a source stream is read as the statements write it. -/
theorem yieldSource_eq_read (hlap : st.fillIn sources ≤ 8191) :
    yieldSource sources[st.source] e lastOut st =
      .ofRead ((Stream.source st).readBy sources e lastOut) (decide (st.fillIn sources = 0)) := by
  by_cases h : st.fillIn sources = 0
  · rw [yieldSource_starved h, readBy_starved h, decide_eq_true h]
    rfl
  · rw [yieldSource_stored h, readBy_stored h hlap, decide_eq_false h]
    rfl

variable (sources e lastOut)

theorem yieldFill_eq_read (f : FillStream) : yieldFill f = .ofRead ((Stream.fill f).readBy sources e lastOut) false := by
  cases f <;> rfl

end

/-- Whether a read of a stream starves (R80). -/
def Stream.starves (sources : Vector Source 192) : Stream → Bool
  | .source st => decide (st.fillIn sources = 0)
  | .fill _ => false

section
variable (sources : Vector Source 192) (e : RouteEntry) {r : LiveRecord}

theorem yieldCurrent_eq_read {x : Stream} (hcur : r.current = some x)
    (hlap : ∀ st : SourceStream, x = .source st → st.fillIn sources ≤ 8191) :
    yieldCurrent sources e r = .ofRead (x.readBy sources e r.lastOut) (x.starves sources) := by
  unfold yieldCurrent
  rw [hcur]
  cases x with
  | source st => exact yieldSource_eq_read (hlap st rfl)
  | fill f => exact yieldFill_eq_read ..

/-- An old stream is read as the statements write it, lapped or not (R81; log entry 34). -/
theorem yieldOld_eq_read {z : Stream} (hold : r.old = some z) :
    ∃ starved, yieldOld sources e r = .ofRead (z.readBy sources e r.lastOut) starved := by
  unfold yieldOld
  rw [hold]
  cases z with
  | source st =>
    by_cases hlap : st.fillIn sources ≤ 8191
    · exact ⟨_, (if_neg (Nat.not_lt.2 hlap)).trans (yieldSource_eq_read hlap)⟩
    · rw [readBy_lapped (Nat.lt_of_not_le hlap)]
      exact ⟨false, if_pos (Nat.lt_of_not_le hlap)⟩
  | fill f => exact ⟨false, yieldFill_eq_read ..⟩

/-! ### The read of a record (R79, R91, R96) -/

theorem readOnce_of_ne_parked (h : r.state ≠ .parked) :
    readOnce sources e r = readStages sources e (lapIfLapped sources e r) := by
  unfold readOnce
  split
  next hp => exact absurd hp h
  next => rfl

theorem lapIfLapped_within (hlap : ∀ st : SourceStream, r.current = some (.source st) → st.fillIn sources ≤ 8191) :
    lapIfLapped sources e r = r := by
  unfold lapIfLapped LiveRecord.sourceStream
  cases hcur : r.current with
  | none => rfl
  | some x =>
    cases x with
    | source st => exact if_neg (Nat.not_lt.2 (hlap st hcur))
    | fill f => rfl

theorem lapIfLapped_lapped {st : SourceStream} (hcur : r.current = some (.source st)) (hlap : 8191 < st.fillIn sources) :
    lapIfLapped sources e r = lapReseat sources e st.source r := by
  unfold lapIfLapped LiveRecord.sourceStream
  rw [hcur]
  exact if_pos hlap

theorem readStages_unfaded (h : r.fade = 32) :
    let cur := yieldCurrent sources e r
    readStages sources e r =
      ({ r with
          current := cur.stream
          lastOut := cur.value
          counters := { r.counters with starves := raise r.counters.starves (bitNat cur.starved) } },
        ⟨cur.value, cur.valid⟩) :=
  if_neg (show ¬ r.fade < 32 by omega)

theorem readStages_faded (h : r.fade < 32) :
    let cur := yieldCurrent sources e r
    let old := yieldOld sources e r
    let out := blend r.fade old.value cur.value
    readStages sources e r =
      ({ r with
          current := cur.stream
          old := if r.fade = 31 then none else old.stream
          fade := r.fade + 1
          lastOut := if r.state = .idle ∧ r.fade = 31 then 0 else out
          counters := { r.counters with starves := raise r.counters.starves (bitNat cur.starved) } },
        ⟨out, old.valid || cur.valid⟩) := by
  have hend : r.fade + 1 = 32 ↔ r.fade = 31 := by omega
  intro cur old out
  refine (if_pos h).trans ?_
  simp only [lastFaded, hend]
  rfl

end

/-! ### A lapped read (R78, R80) -/

section
variable (sources : Vector Source 192) {e : RouteEntry} (hlow : 128 ≤ e.delay) (hhigh : e.delay ≤ 6000)
include hlow hhigh

/-- The stream of a re-seat stands at its delay, so its first read yields a stored sample (R78). -/
theorem seated_yields (i : SourceIx) (lastOut : Sample) :
    ∃ v, yieldSource sources[i] e lastOut {
        source := i, readCount := (sources[i]).writeCount - BitVec.ofNat 24 e.delay, gain := e.gain, invert := e.invert
        mute := e.mute, lastYield := none } = {
      stream := some (.source {
        source := i, readCount := (sources[i]).writeCount - BitVec.ofNat 24 e.delay + 1, gain := e.gain
        invert := e.invert, mute := e.mute, lastYield := some v })
      value := v, valid := true, starved := false } := by
  refine ⟨_, yieldSource_stored (sources := sources) ?_⟩
  rw [SourceStream.fillIn, sub_sub_cancel, BitVec.toNat_ofNat]
  omega

/-- A lapped stream is re-seated and read at once, on a fade from the last output sample (R78, R80). -/
theorem readOnce_lapped {r : LiveRecord} (hstate : r.state = .active) {st : SourceStream}
    (hcur : r.current = some (.source st)) (hlap : 8191 < st.fillIn sources) :
    ∃ v, readOnce sources e r =
      ({ r with
          current := some (.source {
            source := st.source, readCount := (sources[st.source]).writeCount - BitVec.ofNat 24 e.delay + 1
            gain := e.gain, invert := e.invert, mute := e.mute, lastYield := some v })
          old := some (.fill (.hold r.lastOut))
          fade := 1
          lastOut := r.lastOut
          counters := { r.counters with laps := raise r.counters.laps 1, reseats := raise r.counters.reseats 1 } },
        ⟨r.lastOut, true⟩) := by
  obtain ⟨v, hyield⟩ := seated_yields sources hlow hhigh st.source r.lastOut
  have hcurrent : yieldCurrent sources e (lapReseat sources e st.source r) = _ := hyield
  have hold : yieldOld sources e (lapReseat sources e st.source r) = yieldFill (.hold r.lastOut) := rfl
  have hne : r.state ≠ .parked := by rw [hstate]; decide
  refine ⟨v, ?_⟩
  rw [readOnce_of_ne_parked sources e hne, lapIfLapped_lapped sources e hcur hlap,
    readStages_faded sources e (Nat.zero_lt_succ _ : (lapReseat sources e st.source r).fade < 32), hcurrent, hold]
  simp [lapReseat, countReseat, yieldFill, fillValue, blend_zero, bitNat, hstate]

end

/-! ### The other reads (R79 to R82, R96) -/

section
variable (sources : Vector Source 192) (e : RouteEntry) {r : LiveRecord}

/-- Without a fade and without a lap, the output is the current stream's value. -/
theorem readOnce_unfaded (hne : r.state ≠ .parked) (hfade : r.fade = 32)
    (hlap : ∀ st : SourceStream, r.current = some (.source st) → st.fillIn sources ≤ 8191) :
    let cur := yieldCurrent sources e r
    readOnce sources e r =
      ({ r with
          current := cur.stream
          lastOut := cur.value
          counters := { r.counters with starves := raise r.counters.starves (bitNat cur.starved) } },
        ⟨cur.value, cur.valid⟩) := by
  intro cur
  rw [readOnce_of_ne_parked sources e hne, lapIfLapped_within sources e hlap, readStages_unfaded sources e hfade]

/-- Without a fade, an ACTIVE record's read is its source stream's. -/
theorem readOnce_active (hstate : r.state = .active) (hfade : r.fade = 32) {st : SourceStream}
    (hcur : r.current = some (.source st)) (hlap : st.fillIn sources ≤ 8191) :
    let cur := yieldSource sources[st.source] e r.lastOut st
    readOnce sources e r =
      ({ r with
          current := cur.stream
          lastOut := cur.value
          counters := { r.counters with starves := raise r.counters.starves (bitNat cur.starved) } },
        ⟨cur.value, cur.valid⟩) := by
  have hne : r.state ≠ .parked := by rw [hstate]; decide
  have hyield : yieldCurrent sources e r = yieldSource sources[st.source] e r.lastOut st := by rw [yieldCurrent, hcur]
  rw [← hyield]
  refine readOnce_unfaded sources e hne hfade fun st' hst => ?_
  rw [hcur] at hst
  cases hst
  exact hlap

/-- In a fade both streams are read, and the output is their blend (R96). -/
theorem readOnce_faded (hne : r.state ≠ .parked) (hfade : r.fade < 32) {x z : Stream} (hcur : r.current = some x)
    (hold : r.old = some z) (hlap : ∀ st : SourceStream, x = .source st → st.fillIn sources ≤ 8191) :
    let new := x.readBy sources e r.lastOut
    let old := z.readBy sources e r.lastOut
    let out := blend r.fade old.2.value new.2.value
    readOnce sources e r =
      ({ r with
          current := some new.1
          old := if r.fade = 31 then none else some old.1
          fade := r.fade + 1
          lastOut := if r.state = .idle ∧ r.fade = 31 then 0 else out
          counters := { r.counters with starves := raise r.counters.starves (bitNat (x.starves sources)) } },
        ⟨out, old.2.valid || new.2.valid⟩) := by
  obtain ⟨starved, hyieldOld⟩ := yieldOld_eq_read sources e hold
  have hwithin (st : SourceStream) (hst : r.current = some (.source st)) : st.fillIn sources ≤ 8191 :=
    hlap st (Option.some.inj (hcur.symm.trans hst))
  rw [readOnce_of_ne_parked sources e hne, lapIfLapped_within sources e hwithin, readStages_faded sources e hfade,
    yieldCurrent_eq_read sources e hcur hlap, hyieldOld]
  rfl

/-- Without a fade, a fill stream yields its value and stays. -/
theorem readOnce_fill (hne : r.state ≠ .parked) (hfade : r.fade = 32) {f : FillStream} (hcur : r.current = some (.fill f)) :
    readOnce sources e r = ({ r with lastOut := fillValue f }, ⟨fillValue f, false⟩) := by
  have hyield : yieldCurrent sources e r = yieldFill f := by rw [yieldCurrent, hcur]
  rw [readOnce_unfaded sources e hne hfade fun st hst => (by rw [hcur] at hst; cases hst), hyield]
  simp only [yieldFill, bitNat, Bool.false_eq_true, if_false, raise_zero, ← hcur]

/-- Without a stream and a fade, a record yields 0. -/
theorem readOnce_nothing (hne : r.state ≠ .parked) (hfade : r.fade = 32) (hcur : r.current = none) :
    readOnce sources e r = ({ r with lastOut := 0 }, ⟨0, false⟩) := by
  have hyield : yieldCurrent sources e r = { stream := none, value := 0, valid := false, starved := false } := by
    rw [yieldCurrent, hcur]
  rw [readOnce_unfaded sources e hne hfade fun st hst => (by rw [hcur] at hst; cases hst), hyield]
  simp only [bitNat, Bool.false_eq_true, if_false, raise_zero, ← hcur]

end

/-- Settles O26: the current stream lapped, starved or stored; in a fade both streams' values blended; a fill or nothing. -/
theorem readTakesStreamCases : Obligations.ReadTakesStreamCases := by
  intro sources e r hlow hhigh t o
  refine ⟨fun st hactive hcur => ⟨fun hlap => ?_, fun hfade hfill => ?_, fun hfade hpos hlap => ?_⟩,
    fun x z hne hfade hcur hold hlap => ?_, fun f hfilling hfade hcur => ?_, fun hidle hfade hcur => ?_⟩
  · obtain ⟨v, hread⟩ := readOnce_lapped sources hlow hhigh hactive hcur hlap
    simp only [t, o, hread]
    exact ⟨trivial, hactive, trivial, trivial, trivial, trivial, ⟨_, rfl⟩, trivial⟩
  · have hread := readOnce_active sources e hactive hfade hcur (hfill.le.trans (Nat.zero_le _))
    rw [yieldSource_starved hfill, absenceValue_eq] at hread
    simp only [t, o, hread]
    exact ⟨trivial, hactive, trivial, trivial, ⟨_, rfl⟩, hfade, trivial, rfl⟩
  · have hread := readOnce_active sources e hactive hfade hcur hlap
    rw [yieldSource_stored (Nat.ne_of_gt hpos), gainAndMute_polarity] at hread
    simp only [t, o, hread]
    exact ⟨trivial, hactive, trivial, rfl, ⟨_, rfl⟩, hfade, trivial, by simp only [bitNat, Bool.false_eq_true, if_false,
      raise_zero]⟩
  · have hread := readOnce_faded sources e hne hfade hcur hold hlap
    simp only [t, o, hread]
    refine ⟨blend_toInt hfade.le .., trivial, ?_⟩
    cases x <;> rfl
  · have hread := readOnce_fill sources e (show r.state ≠ .parked by rw [hfilling]; decide) hfade hcur
    simp only [t, o, hread]
    cases f <;> exact ⟨rfl, trivial⟩
  · have hne : r.state ≠ .parked := by rw [hidle]; decide
    rcases hcur with hnone | hsilence
    · have hread := readOnce_nothing sources e hne hfade hnone
      simp only [t, o, hread]
      exact ⟨trivial, trivial⟩
    · have hread := readOnce_fill sources e hne hfade hsilence
      simp only [t, o, hread]
      exact ⟨rfl, rfl⟩

end Sys2Proof.Machine
end

section
/-! A live record fits its committed entry (O57, O58): what fitting is, state by state, and that stops, checks, reads and
new entries leave a record fitting. -/

namespace Sys2Proof.Machine

/-! ### What fitting is, state by state (R68 to R70, R85, R98) -/

/-- The crossfade position is in its range, and an old stream is held exactly while a fade is in flight (R70). -/
def LiveRecord.fadeFits (r : LiveRecord) : Prop :=
  r.fade ≤ 32 ∧ (r.fade = 32 ↔ r.old = none)

section
variable {e : RouteEntry} {r : LiveRecord}

theorem fits_fadeFits (h : r.fits e = true) : r.fadeFits := by
  simp only [LiveRecord.fits, Bool.and_eq_true, decide_eq_true_eq] at h
  exact h.1

theorem fits_idle_iff (hr : r.state = .idle) :
    r.fits e = true ↔ r.fadeFits ∧ e.enabled = false ∧ r.active = none
      ∧ (r.current = none ∨ r.current = some (.fill .silence)) ∧ (r.fade = 32 → r.lastOut = 0) := by
  simp only [LiveRecord.fits, hr, LiveRecord.fadeFits, Bool.and_eq_true, decide_eq_true_eq, Bool.not_eq_true',
    Option.isNone_iff_eq_none, and_assoc]

theorem fits_parked_iff (hr : r.state = .parked) :
    r.fits e = true ↔ e.enabled = true ∧ r = park r := by
  simp only [LiveRecord.fits, hr, Bool.and_eq_true, decide_eq_true_eq]
  refine ⟨And.right, fun h => ⟨?_, h⟩⟩
  rw [h.2]
  exact ⟨Nat.le_refl _, iff_of_true rfl rfl⟩

theorem fits_active_iff (hr : r.state = .active) :
    r.fits e = true ↔ r.fadeFits ∧ e.enabled = true ∧ ∃ a st, r.active = some a ∧ r.current = some (.source st)
      ∧ e.candidates[a]? = some st.source := by
  simp only [LiveRecord.fits, hr, LiveRecord.fadeFits, Bool.and_eq_true, decide_eq_true_eq]
  refine and_congr_right fun _ => and_congr_right fun _ => ?_
  unfold LiveRecord.sourceStream
  rcases r.active with _ | a <;> rcases r.current with _ | st | f <;> simp

theorem fits_filling_iff (hr : r.state = .filling) :
    r.fits e = true ↔ r.fadeFits ∧ e.enabled = true ∧ r.active = none ∧ ∃ f, r.current = some (.fill f) := by
  simp only [LiveRecord.fits, hr, LiveRecord.fadeFits, Bool.and_eq_true, decide_eq_true_eq, Option.isNone_iff_eq_none,
    and_assoc]
  refine and_congr_right fun _ => and_congr_right fun _ => and_congr_right fun _ => and_congr_right fun _ => ?_
  rcases r.current with _ | st | f <;> simp

/-- A record that is not IDLE fits enabled entries alone (R68). -/
theorem fits_enabled (h : r.fits e = true) (hr : r.state ≠ .idle) : e.enabled = true := by
  cases hs : r.state with
  | idle => exact absurd hs hr
  | parked => exact ((fits_parked_iff hs).1 h).1
  | active => exact ((fits_active_iff hs).1 h).2.1
  | filling => exact ((fits_filling_iff hs).1 h).2.1

/-! ### Records set anew -/

/-- A fade that has just begun. -/
theorem fadeFits_of_begun (hfade : r.fade = 0) (hold : r.old.isSome = true) : r.fadeFits :=
  ⟨by omega, iff_of_false (by omega) (Option.isSome_iff_ne_none.1 hold)⟩

theorem park_fits (he : e.enabled = true) (r : LiveRecord) : (park r).fits e = true :=
  (fits_parked_iff rfl).2 ⟨he, rfl⟩

theorem idleSilent_fits (he : e.enabled = false) (r : LiveRecord) : (idleSilent r).fits e = true :=
  (fits_idle_iff rfl).2 ⟨⟨Nat.le_refl _, iff_of_true rfl rfl⟩, he, rfl, .inl rfl, fun _ => rfl⟩

theorem fillFaded_fits (he : e.enabled = true) (r : LiveRecord) : (fillFaded e r).fits e = true :=
  (fits_filling_iff rfl).2 ⟨fadeFits_of_begun rfl rfl, he, rfl, _, rfl⟩

theorem fillUnfaded_fits (he : e.enabled = true) (r : LiveRecord) : (fillUnfaded e r).fits e = true :=
  (fits_filling_iff rfl).2 ⟨⟨Nat.le_refl _, iff_of_true rfl rfl⟩, he, rfl, _, rfl⟩

theorem reseat_fits (he : e.enabled = true) {a : Nat} {i : SourceIx} (hc : e.candidates[a]? = some i)
    (sources : Vector Source 192) (r : LiveRecord) : (reseat sources e a i r).fits e = true :=
  (fits_active_iff rfl).2 ⟨fadeFits_of_begun rfl rfl, he, a, _, rfl, rfl, hc⟩

/-- An ACTIVE record that turns to another stream of the same source by a fade still fits (R70, R77, R87). -/
theorem newStream_fits (hr : r.state = .active) {st : SourceStream} (hst : r.current = some (.source st))
    (h : r.fits e = true) {t : LiveRecord} (hstate : t.state = r.state) (hactive : t.active = r.active)
    (hcurrent : ∃ new : SourceStream, t.current = some (.source new) ∧ new.source = st.source) (hfade : t.fadeFits) :
    t.fits e = true := by
  obtain ⟨-, he, a, st', ha, hcur, hc⟩ := (fits_active_iff hr).1 h
  obtain ⟨new, hnew, hsource⟩ := hcurrent
  obtain rfl : st = st' := by simpa [hst] using hcur
  exact (fits_active_iff (hstate.trans hr)).2 ⟨hfade, he, a, new, hactive.trans ha, hnew, hsource ▸ hc⟩

section
variable (sources : Vector Source 192) {st : SourceStream} (h : r.fits e = true) (hr : r.state = .active)
  (hst : r.current = some (.source st))
include h hr hst

theorem lapReseat_fits : (lapReseat sources e st.source r).fits e = true :=
  newStream_fits hr hst h rfl rfl ⟨_, rfl, rfl⟩ (fadeFits_of_begun rfl rfl)

theorem realign_fits (x : Source) (delay : Nat) (gain : Word) (invert mute : Bool) :
    (realign x delay st gain invert mute r).fits e = true :=
  newStream_fits hr hst h rfl rfl ⟨_, rfl, rfl⟩ (fadeFits_of_begun rfl rfl)

end

/-! ### Stops, checks and new entries (R73 to R77, R83 to R88) -/

theorem stopRecord_fits (h : r.fits e = true) : (stopRecord r).fits e = true := by
  unfold stopRecord
  split
  next hs => exact park_fits (fits_enabled h (by simp [hs])) r
  next hs => exact park_fits (fits_enabled h (by simp [hs])) r
  next hs =>
    split
    · exact idleSilent_fits ((fits_idle_iff hs).1 h).2.1 r
    · exact h
  next => exact h

theorem mostPreferred_candidate {sources : Vector Source 192} {a : Nat} {i : SourceIx}
    (h : mostPreferred sources e = some (a, i)) : e.candidates[a]? = some i :=
  (pick_some h).2.1

variable (sources : Vector Source 192)

theorem start_fits (he : e.enabled = true) (h : r.state = .filling → r.fits e = true) :
    (start sources e r).fits e = true := by
  unfold start
  split
  next hp => exact reseat_fits he (mostPreferred_candidate hp) sources r
  next =>
    split
    next hs => exact h hs
    next =>
      split
      · exact fillFaded_fits he r
      · exact fillUnfaded_fits he r

theorem failover_fits (he : e.enabled = true) (a : Nat) (r : LiveRecord) :
    (failover sources e a r).fits e = true := by
  unfold failover
  dsimp only
  split
  next hp => exact reseat_fits he (pick_some hp).2.1 sources _
  next => exact fillFaded_fits he _

theorem driftTest_fits (h : r.fits e = true) (hr : r.state = .active) {st : SourceStream}
    (hst : r.current = some (.source st)) : (driftTest sources e st r).fits e = true := by
  unfold driftTest
  dsimp only
  split
  · exact lapReseat_fits sources h hr hst
  split
  · exact h
  · exact realign_fits h hr hst ..

theorem sourceStream_eq_some {st : SourceStream} (h : r.sourceStream = some st) : r.current = some (.source st) := by
  unfold LiveRecord.sourceStream at h
  split at h
  next hc =>
    cases h
    exact hc
  next => cases h

theorem revertOrDrift_fits (h : r.fits e = true) (hr : r.state = .active) (a : Nat) :
    (revertOrDrift sources e a r).fits e = true := by
  unfold revertOrDrift
  split
  next b i hp =>
    split at hp
    · exact reseat_fits (fits_enabled h (by simp [hr])) (pick_some hp).2.1 sources _
    · cases hp
  next =>
    split
    next hst => exact driftTest_fits sources h hr (sourceStream_eq_some hst)
    next => exact h

/-- The frame-start check leaves a fitting record fitting (R73 to R77). -/
theorem check_fits (h : r.fits e = true) (running : Bool) : (check sources e running r).fits e = true := by
  unfold check
  split
  next => exact h
  next hs =>
    split
    · exact start_fits sources (fits_enabled h (by simp [hs])) fun _ => h
    · exact h
  next hs => exact start_fits sources (fits_enabled h (by simp [hs])) fun _ => h
  next hs =>
    dsimp only
    split
    · exact revertOrDrift_fits sources h hs _
    · exact failover_fits sources (fits_enabled h (by simp [hs])) _ r

theorem enterFilling_fits (he : e.enabled = true) {e' : RouteEntry} (hr : r.state = .filling) (h : r.fits e' = true) :
    (enterFilling sources e r).fits e = true := by
  obtain ⟨hfade, -, hactive, hfill⟩ := (fits_filling_iff hr).1 h
  have hkept : r.fits e = true := (fits_filling_iff hr).2 ⟨hfade, he, hactive, hfill⟩
  unfold enterFilling
  split
  next hp => exact reseat_fits he (mostPreferred_candidate hp) sources r
  next =>
    split
    · exact hkept
    · exact hkept
    · exact fillFaded_fits he r

theorem keepPosition_fits (h : r.fits e = true) (hr : r.state = .active) {st : SourceStream}
    (hst : r.current = some (.source st)) : (keepPosition sources e st r).fits e = true := by
  unfold keepPosition
  dsimp only
  split
  · exact lapReseat_fits sources h hr hst
  split
  · split
    · exact h
    · exact newStream_fits hr hst h rfl rfl ⟨_, rfl, rfl⟩ (fadeFits_of_begun rfl rfl)
  · exact realign_fits h hr hst ..

theorem enterActive_fits (he : e.enabled = true) {e' : RouteEntry} (oldDelay : Nat) (hr : r.state = .active)
    (h : r.fits e' = true) : (enterActive sources oldDelay e r).fits e = true := by
  unfold enterActive
  split
  next => exact fillFaded_fits he r
  next a i hp =>
    have hc := mostPreferred_candidate hp
    split
    next st hst =>
      split
      next hsame =>
        have hcur := sourceStream_eq_some hst
        have hfade : r.fadeFits := fits_fadeFits h
        refine keepPosition_fits (r := { r with active := some a }) sources ?_ hr hcur
        exact (fits_active_iff (r := { r with active := some a }) hr).2 ⟨hfade, he, a, st, rfl, hcur, hsame.1 ▸ hc⟩
      next => exact reseat_fits he hc sources r
    next => exact reseat_fits he hc sources r

theorem enterDisabled_fits (he : e.enabled = false) (r : LiveRecord) : (enterDisabled r).fits e = true := by
  have hsilent (r : LiveRecord) : ({ crossfade r (.fill .silence) with state := .idle, active := none } : LiveRecord).fits
      e = true :=
    (fits_idle_iff rfl).2 ⟨fadeFits_of_begun rfl rfl, he, rfl, .inr rfl, fun h => absurd h (by decide : ¬ (0 : Nat) = 32)⟩
  unfold enterDisabled
  split
  · exact hsilent r
  · exact hsilent r
  · exact idleSilent_fits he r
  · exact idleSilent_fits he r

/-- A record that fitted the entry replaced fits the new one (R86 to R88). -/
theorem enterEntry_fits {e' : RouteEntry} (h : r.fits e' = true) (oldDelay : Nat) (running : Bool) :
    (enterEntry sources oldDelay e running r).fits e = true := by
  by_cases he : e.enabled = true
  · have hstill (hs : r.state = .idle ∨ r.state = .parked) :
        (enterEntry sources oldDelay e running r).fits e = true := by
      rw [enterEntry_still he hs]
      split
      · exact start_fits sources he fun hf => by rw [hf] at hs; simp at hs
      · exact park_fits he r
    cases hs : r.state with
    | idle => exact hstill (.inl hs)
    | parked => exact hstill (.inr hs)
    | filling =>
      rw [enterEntry_filling he hs]
      exact enterFilling_fits sources he hs h
    | active =>
      rw [enterEntry_active he hs]
      exact enterActive_fits sources he oldDelay hs h
  · rw [Bool.not_eq_true] at he
    rw [enterEntry_disabled he]
    exact enterDisabled_fits he r

/-! ### Reads (R79 to R82, R98) -/

/-- Of the records that fit, ACTIVE ones alone read a source (R68, R70). -/
theorem active_of_source (h : r.fits e = true) {st : SourceStream} (hst : r.current = some (.source st)) :
    r.state = .active := by
  cases hs : r.state with
  | idle =>
    obtain ⟨-, -, -, hcur, -⟩ := (fits_idle_iff hs).1 h
    simp [hst] at hcur
  | parked =>
    rw [((fits_parked_iff hs).1 h).2] at hst
    cases hst
  | active => rfl
  | filling =>
    obtain ⟨-, -, -, f, hf⟩ := (fits_filling_iff hs).1 h
    simp [hst] at hf

theorem lapIfLapped_fits (h : r.fits e = true) : (lapIfLapped sources e r).fits e = true := by
  unfold lapIfLapped
  split
  next st hst =>
    have hcur := sourceStream_eq_some hst
    split
    · exact lapReseat_fits sources h (active_of_source h hcur) hcur
    · exact h
  next => exact h

theorem lapIfLapped_state (e : RouteEntry) (r : LiveRecord) : (lapIfLapped sources e r).state = r.state := by
  unfold lapIfLapped
  split
  · split <;> rfl
  · rfl

/-- A source stream yields as a stream of the same source (R80). -/
theorem yieldCurrent_source {st : SourceStream} (hst : r.current = some (.source st)) :
    ∃ new : SourceStream, (yieldCurrent sources e r).stream = some (.source new) ∧ new.source = st.source := by
  simp only [yieldCurrent, hst, yieldSource]
  split <;> exact ⟨_, rfl, rfl⟩

theorem yieldCurrent_fill {f : FillStream} (hf : r.current = some (.fill f)) :
    yieldCurrent sources e r = yieldFill f := by
  simp only [yieldCurrent, hf]

theorem yieldOld_isSome (e : RouteEntry) (r : LiveRecord) : (yieldOld sources e r).stream.isSome = true := by
  unfold yieldOld
  split
  · split
    · rfl
    · unfold yieldSource
      split <;> rfl
  · rfl
  · rfl

/-- What a read changes of a record: the streams as they yield, the fade one on, the last output sample and the counters. -/
theorem readStages_record (e : RouteEntry) (r : LiveRecord) :
    (readStages sources e r).1.state = r.state ∧ (readStages sources e r).1.active = r.active
      ∧ (readStages sources e r).1.current = (yieldCurrent sources e r).stream := by
  unfold readStages
  dsimp only
  split <;> exact ⟨rfl, rfl, rfl⟩

theorem readStages_fadeFits (h : r.fadeFits) : (readStages sources e r).1.fadeFits := by
  have hold := yieldOld_isSome sources e r
  unfold readStages
  dsimp only
  split
  next hlt =>
    refine ⟨Nat.succ_le_of_lt hlt, ?_⟩
    dsimp only
    split
    next hend => exact iff_of_true hend rfl
    next hend => exact iff_of_false hend (Option.isSome_iff_ne_none.1 hold)
  next => exact h

/-- Without a fade an IDLE record yields 0, and the fade to silence ends with last output sample 0 (R86, R98; log entry 30). -/
theorem readStages_idle_lastOut (hs : r.state = .idle) (hcur : r.current = none ∨ r.current = some (.fill .silence))
    (hend : (readStages sources e r).1.fade = 32) : (readStages sources e r).1.lastOut = 0 := by
  unfold readStages at hend ⊢
  dsimp only at hend ⊢
  split at hend
  next hlt =>
    rw [if_pos hlt]
    dsimp only at hend ⊢
    rw [lastFaded, if_pos ⟨hs, hend⟩]
  next hlt =>
    rw [if_neg hlt]
    rcases hcur with hc | hc
    · simp only [yieldCurrent, hc]
    · simp only [yieldCurrent, hc, yieldFill, fillValue]

theorem readStages_fits (h : r.fits e = true) (hr : r.state ≠ .parked) : (readStages sources e r).1.fits e = true := by
  obtain ⟨hstate, hactive, hcurrent⟩ := readStages_record sources e r
  have hfade := readStages_fadeFits sources (e := e) (fits_fadeFits h)
  cases hs : r.state with
  | idle =>
    obtain ⟨-, he, ha, hcur, -⟩ := (fits_idle_iff hs).1 h
    refine (fits_idle_iff (hstate.trans hs)).2 ⟨hfade, he, hactive.trans ha, ?_, readStages_idle_lastOut sources hs hcur⟩
    rw [hcurrent]
    rcases hcur with hc | hc
    · simp only [yieldCurrent, hc, true_or]
    · exact .inr (congrArg Yield.stream (yieldCurrent_fill sources hc))
  | parked => exact absurd hs hr
  | active =>
    obtain ⟨-, -, -, st, -, hst, -⟩ := (fits_active_iff hs).1 h
    exact newStream_fits hs hst h hstate hactive (hcurrent ▸ yieldCurrent_source sources hst) hfade
  | filling =>
    obtain ⟨-, he, ha, f, hf⟩ := (fits_filling_iff hs).1 h
    exact (fits_filling_iff (hstate.trans hs)).2 ⟨hfade, he, hactive.trans ha, f,
      hcurrent.trans (congrArg Yield.stream (yieldCurrent_fill sources hf))⟩

/-- A read leaves a fitting record fitting, in the state it was in (R79). -/
theorem readOnce_fits (h : r.fits e = true) : (readOnce sources e r).1.fits e = true := by
  by_cases hr : r.state = .parked
  · simpa only [readOnce, hr] using h
  · rw [readOnce_of_ne_parked _ _ hr]
    exact readStages_fits sources (lapIfLapped_fits sources h) (by rwa [lapIfLapped_state])

theorem readOnce_state (e : RouteEntry) (r : LiveRecord) : (readOnce sources e r).1.state = r.state := by
  by_cases hr : r.state = .parked
  · simp only [readOnce, hr]
  · rw [readOnce_of_ne_parked _ _ hr, (readStages_record ..).1, lapIfLapped_state]

theorem readMany_fits (h : r.fits e = true) (k : Nat) : (readMany sources e k r).1.fits e = true := by
  induction k generalizing r with
  | zero => exact h
  | succ k ih => exact ih (readOnce_fits sources h)

theorem readMany_state (e : RouteEntry) (k : Nat) (r : LiveRecord) : (readMany sources e k r).1.state = r.state := by
  induction k generalizing r with
  | zero => rfl
  | succ k ih => exact (ih _).trans (readOnce_state sources e r)

end

end Sys2Proof.Machine
end

section
/-! What every step keeps of the live records and the output sides (O57, O58): the relation between the states before and after
it, its rules for the elementary updates, and what stops, applications of a take and boundaries keep. -/

namespace Sys2Proof.Machine

/-! ### Output sides, block by block (R68, R83 to R85) -/

/-- The groups that run may run (R83). -/
def Lane.runsRight (l : Lane) : Prop :=
  ∀ g : GroupIx, l.running[g] = true → l.inputState = .locked ∧ embeds l.plan.modes[g] = true

/-- The channels that run may run (R84). -/
def Port.runsRight (x : Port) : Prop :=
  ∀ c : ChanIx, x.running[c] = true → x.transmit = .running ∧ x.plan.channels[c] = true

/-- A record is not PARKED where its output side runs, and neither reads nor fades where it does not (R85). -/
def LiveRecord.placed (runs : Bool) (r : LiveRecord) : Prop :=
  if runs then r.state ≠ .parked else r.state ≠ .active ∧ r.state ≠ .filling ∧ r.fade = 32

theorem outputsConsistent_iff (s : State) : s.outputsConsistent ↔
    (∀ n : LaneIx, (s.lanes[n]).runsRight) ∧ (∀ p : PortIx, (s.ports[p]).runsRight)
      ∧ ∀ d : DestIx, (s.dests[d]).placed (outputRuns s d) :=
  Iff.rfl

theorem placed_running {r : LiveRecord} : r.placed true ↔ r.state ≠ .parked := by
  rw [LiveRecord.placed, if_pos rfl]

theorem placed_stopped {r : LiveRecord} :
    r.placed false ↔ r.state ≠ .active ∧ r.state ≠ .filling ∧ r.fade = 32 := by
  rw [LiveRecord.placed, if_neg (by decide)]

/-! ### Records that stop, act or are checked where they are placed (R73, R83 to R88) -/

section
variable {e : RouteEntry} {r : LiveRecord}

/-- Where no output side runs, a record is IDLE or PARKED (R85). -/
theorem still_of_placed (h : r.placed false) : r.state = .idle ∨ r.state = .parked := by
  obtain ⟨ha, hf, -⟩ := placed_stopped.1 h
  cases hs : r.state with
  | idle => exact .inl rfl
  | parked => exact .inr rfl
  | active => exact absurd hs ha
  | filling => exact absurd hs hf

theorem placed_of_state {runs : Bool} {t : LiveRecord} (hstate : t.state = r.state) (hfade : t.fade = r.fade)
    (h : r.placed runs) : t.placed runs := by
  rwa [LiveRecord.placed, hstate, hfade]

theorem park_placed (r : LiveRecord) : (park r).placed false :=
  placed_stopped.2 ⟨by simp [park], by simp [park], rfl⟩

theorem idleSilent_placed (runs : Bool) (r : LiveRecord) : (idleSilent r).placed runs := by
  cases runs with
  | true => exact placed_running.2 (by simp [idleSilent, LiveRecord.powerOn])
  | false => exact placed_stopped.2 ⟨by simp [idleSilent, LiveRecord.powerOn], by simp [idleSilent, LiveRecord.powerOn], rfl⟩

/-- A record that fits its entry and stops is placed where nothing runs (R83 to R85). -/
theorem stopRecord_placed (h : r.fits e = true) : (stopRecord r).placed false := by
  unfold stopRecord
  split
  next => exact park_placed r
  next => exact park_placed r
  next hs =>
    split
    next => exact idleSilent_placed false r
    next hlt =>
      obtain ⟨hle, -⟩ := fits_fadeFits h
      exact placed_stopped.2 ⟨by simp [hs], by simp [hs], by omega⟩
  next hs =>
    rw [((fits_parked_iff hs).1 h).2]
    exact park_placed r

/-- A record that acts on a new entry is placed where it was still, and anywhere that runs (R86 to R88). -/
theorem enterEntry_placed {runs : Bool} (sources : Vector Source 192) (oldDelay : Nat)
    (h : runs = false → r.placed false) : (enterEntry sources oldDelay e runs r).placed runs := by
  cases runs with
  | true =>
    refine placed_running.2 ?_
    by_cases he : e.enabled = true
    · rcases enterEntry_running_state he sources oldDelay r with hs | hs <;> simp [hs]
    · simp [enterEntry_disabled_state (by simpa using he : e.enabled = false) sources oldDelay true r]
  | false =>
    have hstill := still_of_placed (h rfl)
    by_cases he : e.enabled = true
    · rw [enterEntry_still he hstill]
      exact park_placed r
    · rw [enterEntry_disabled (by simpa using he)]
      rcases hstill with hs | hs <;> simp only [enterDisabled, hs] <;> exact idleSilent_placed false r

theorem revertOrDrift_state (sources : Vector Source 192) (e : RouteEntry) (a : Nat) (h : r.state = .active) :
    (revertOrDrift sources e a r).state = .active := by
  unfold revertOrDrift driftTest
  dsimp only
  split
  · rfl
  · split
    · split
      · exact h
      · split <;> exact h
    · exact h

theorem failover_state (sources : Vector Source 192) (e : RouteEntry) (a : Nat) (r : LiveRecord) :
    (failover sources e a r).state = .active ∨ (failover sources e a r).state = .filling := by
  unfold failover
  dsimp only
  split
  · exact .inl rfl
  · exact .inr rfl

/-- The check leaves no record PARKED where its output side runs (R74). -/
theorem check_running_placed (sources : Vector Source 192) (e : RouteEntry) (r : LiveRecord) :
    (check sources e true r).placed true := by
  refine placed_running.2 ?_
  unfold check
  split
  next hs => simp [hs]
  next => rcases start_state sources e r with h | h <;> simp [h]
  next => rcases start_state sources e r with h | h <;> simp [h]
  next hs =>
    dsimp only
    split
    · simp [revertOrDrift_state sources e (r.active.getD 0) hs]
    · rcases failover_state sources e (r.active.getD 0) r with h | h <;> simp [h]

/-- The check leaves a still record as it is where its output side does not run (R73). -/
theorem check_still (sources : Vector Source 192) (e : RouteEntry) (h : r.placed false) :
    check sources e false r = r := by
  rcases still_of_placed h with hs | hs <;> simp [check, hs]

end

/-! ### What a change keeps -/

/-- The change from one state to the next keeps every live record fitting its entry, and, in states where they fit, output
sides and records in agreement. -/
structure Routes (s t : State) : Prop where
  fit : s.recordsFit → t.recordsFit
  outputs : s.recordsFit → s.outputsConsistent → t.outputsConsistent

/-- A lane after a change that starts and stops no group. -/
structure LaneRuns (a b : Lane) : Prop where
  running : b.running = a.running
  right : a.runsRight → b.runsRight

/-- A port after a change that starts and stops no channel. -/
structure PortRuns (a b : Port) : Prop where
  running : b.running = a.running
  right : a.runsRight → b.runsRight

theorem LaneRuns.refl (a : Lane) : LaneRuns a a := ⟨rfl, id⟩

theorem PortRuns.refl (a : Port) : PortRuns a a := ⟨rfl, id⟩

/-- A change of a lane that is not LOCKED, where no group runs (R83). -/
theorem LaneRuns.of_unlocked {a b : Lane} (h : a.inputState ≠ .locked) (hrun : b.running = a.running) : LaneRuns a b := by
  refine ⟨hrun, fun ha g hg => absurd (ha g ?_).1 h⟩
  rwa [hrun] at hg

section
variable {s t u : State}

theorem Routes.trans (h : Routes s t) (k : Routes t u) : Routes s u :=
  ⟨fun e => k.fit (h.fit e), fun e c => k.outputs (h.fit e) (h.outputs e c)⟩

theorem Routes.refl (s : State) : Routes s s := ⟨id, fun _ => id⟩

/-- A change of any blocks, each record, lane and port kept on its own. -/
theorem Routes.ofEach
    (fit : ∀ d : DestIx, (s.dests[d]).fits s.entries[d] = true → (t.dests[d]).fits t.entries[d] = true)
    (lanes : ∀ n : LaneIx, (s.lanes[n]).runsRight → (t.lanes[n]).runsRight)
    (ports : ∀ p : PortIx, (s.ports[p]).runsRight → (t.ports[p]).runsRight)
    (placed : ∀ d : DestIx, (s.dests[d]).fits s.entries[d] = true → (s.dests[d]).placed (outputRuns s d) →
      (t.dests[d]).placed (outputRuns t d)) : Routes s t where
  fit := fun h d => fit d (h d)
  outputs := fun h c => by
    rw [outputsConsistent_iff] at c ⊢
    obtain ⟨hlanes, hports, hplaced⟩ := c
    exact ⟨fun n => lanes n (hlanes n), fun p => ports p (hports p), fun d => placed d (h d) (hplaced d)⟩

/-- A change that starts and stops no output side. -/
theorem Routes.of
    (fit : ∀ d : DestIx, (s.dests[d]).fits s.entries[d] = true → (t.dests[d]).fits t.entries[d] = true := by
      exact fun _ h => h)
    (lanes : ∀ n : LaneIx, LaneRuns s.lanes[n] t.lanes[n] := by exact fun _ => LaneRuns.refl _)
    (ports : ∀ p : PortIx, PortRuns s.ports[p] t.ports[p] := by exact fun _ => PortRuns.refl _)
    (placed : ∀ d : DestIx, (s.dests[d]).placed (outputRuns s d) → (t.dests[d]).placed (outputRuns s d) := by
      exact fun _ h => h) : Routes s t :=
  .ofEach fit (fun n => (lanes n).right) (fun p => (ports p).right) fun d _ h => by
    rw [outputRuns_congr_running (fun n => (lanes n).running) fun p => (ports p).running]
    exact placed d h

/-! ### Rules for the updates of one block -/

theorem Routes.modifyLane {n : LaneIx} {f : Lane → Lane} (h : LaneRuns s.lanes[n] (f s.lanes[n])) :
    Routes s (s.modifyLane n f) := by
  refine Routes.of (lanes := fun m => ?_)
  rw [State.modifyLane_lanes, modifyAt_getElem]
  split
  next hm => subst hm; exact h
  next => exact LaneRuns.refl _

theorem Routes.modifyPort {p : PortIx} {f : Port → Port} (h : PortRuns s.ports[p] (f s.ports[p])) :
    Routes s (s.modifyPort p f) := by
  refine Routes.of (ports := fun q => ?_)
  rw [State.modifyPort_ports, modifyAt_getElem]
  split
  next hq => subst hq; exact h
  next => exact PortRuns.refl _

theorem Routes.updatePorts {f : PortIx → Port → Port} (h : ∀ p x, PortRuns x (f p x)) : Routes s (s.updatePorts f) :=
  Routes.of (ports := fun p => by rw [State.updatePorts_ports, updateAll_getElem_fin]; exact h p _)

/-- A change of each record by itself that leaves it fitting, and reads only where an output side runs. -/
theorem Routes.updateDests {f : DestIx → LiveRecord → LiveRecord}
    (fit : ∀ d r, r.fits s.entries[d] = true → (f d r).fits s.entries[d] = true)
    (placed : ∀ d r, r.placed (outputRuns s d) → (f d r).placed (outputRuns s d)) : Routes s (s.updateDests f) := by
  refine Routes.of (fit := fun d => ?_) (placed := fun d => ?_)
  · rw [State.updateDests_dests, updateAll_getElem_fin]
    exact fit d _
  · rw [State.updateDests_dests, updateAll_getElem_fin]
    exact placed d _

theorem clockSamples_runs (k : Nat) (x : Port) : PortRuns x (clockSamples k x) := by
  rw [clockSamples_frame]
  exact ⟨rfl, id⟩

/-! ### Output sides stop (R83, R84) -/

/-- The output sides of some destinations have stopped, their groups and channels with them; the others run as they did. -/
theorem Routes.ofStops {q : DestIx → Prop} [DecidablePred q] (entries : t.entries = s.entries)
    (lanes : ∀ n : LaneIx, (s.lanes[n]).runsRight → (t.lanes[n]).runsRight)
    (ports : ∀ p : PortIx, (s.ports[p]).runsRight → (t.ports[p]).runsRight)
    (dests : ∀ d : DestIx, t.dests[d] = if q d then stopRecord s.dests[d] else s.dests[d])
    (runs : ∀ d : DestIx, outputRuns t d = if q d then false else outputRuns s d) : Routes s t := by
  refine .ofEach (fun d h => ?_) lanes ports fun d h hp => ?_
  · rw [dests, entries]
    split
    · exact stopRecord_fits h
    · exact h
  · rw [dests, runs]
    split
    · exact stopRecord_placed h
    · exact hp

end

/-- A lane with no running group. -/
theorem runsRight_of_stopped {l : Lane} (h : l.running = Vector.replicate 4 false) : l.runsRight := by
  intro g hg
  simp [h] at hg

/-- A port with no running channel. -/
theorem runsRight_of_silent {x : Port} (h : x.running = Vector.replicate 4 false) : x.runsRight := by
  intro c hc
  simp [h] at hc

section
variable (s : State)

theorem haltTransmit_ports (p : PortIx) (state : TransmitState) : (haltTransmit p state s).ports =
    modifyAt s.ports p fun x => { x with transmit := state, running := Vector.replicate 4 false } := by
  simp only [haltTransmit, setChannels, State.modifyPort_ports, stopDests, State.updateDests_ports, modifyAt_modifyAt,
    four_const]

theorem haltTransmit_dests (p : PortIx) (state : TransmitState) (d : DestIx) :
    (haltTransmit p state s).dests[d] = if trackPlace d = .port p then stopRecord s.dests[d] else s.dests[d] := by
  simp only [haltTransmit, setChannels_dests, and_true, State.modifyPort_dests]

/-- Transmit leaves RUNNING: the port's channels stop with it (R84, R131). -/
theorem haltTransmit_routes (p : PortIx) (state : TransmitState) : Routes s (haltTransmit p state s) := by
  have hport := haltTransmit_ports s p state
  refine Routes.ofStops (q := fun d => trackPlace d = .port p) rfl (fun _ => id) (fun q => ?_) (fun d => ?_) fun d => ?_
  · rw [hport, modifyAt_getElem]
    split
    next => exact fun _ => runsRight_of_silent rfl
    next => exact id
  · exact haltTransmit_dests s p state d
  · split
    next hd =>
      rw [outputRuns_port hd, hport, modifyAt_getElem_self]
      simp
    next hd =>
      refine outputRuns_modifyPort_ne (p := p) (fun e => hd (trackPlace_eq_port_of_scope e)) rfl hport

theorem fallBack_runs (n : LaneIx) (x : Port) : PortRuns x (fallBack n x) := by
  unfold fallBack
  split
  · rw [clockSamples_frame]
    exact ⟨rfl, id⟩
  · exact PortRuns.refl x

/-- The groups of a lost lane stop, before a take pending on it is applied (R14, R83). -/
theorem lostState_routes (n : LaneIx) (state : InputState) (format : Option Format) :
    Routes s (lostState n state format s) := by
  refine Routes.ofStops (q := fun d => d.val / 16 = n.val) rfl (fun m => ?_) (fun p => ?_)
    (lostState_dests n state format s) (lostState_outputRuns n state format s)
  · by_cases h : m = n
    · subst h
      rw [lostState_lane]
      exact fun _ => runsRight_of_stopped rfl
    · rw [lostState_lane_ne n state format s h]
      exact id
  · rw [lostState_ports]
    exact (fallBack_runs n _).right

end

/-! ### Scopes that settle before a check (R83, R84, R159) -/

section
variable {s v w : State} {scope : Iface} {skip : DestIx → Bool}

theorem settledLane_runsRight (l : Lane) : (settledLane l).runsRight := by
  intro g hg
  rw [settledLane_running, Bool.and_eq_true, decide_eq_true_eq] at hg
  exact hg

theorem settledPort_runsRight (x : Port) : (settledPort x).runsRight := by
  intro c hc
  simp only [settledPort, four_getElem, Bool.and_eq_true, decide_eq_true_eq] at hc
  exact hc

/-- A change after which every record fits and is placed, but for those whose output side runs and whose check, in the scope
and not in `skip`, is still to come (R73). -/
structure Settled (scope : Iface) (skip : DestIx → Bool) (s v : State) : Prop where
  fit : ∀ d : DestIx, (s.dests[d]).fits s.entries[d] = true → (v.dests[d]).fits v.entries[d] = true
  lanes : ∀ n : LaneIx, (s.lanes[n]).runsRight → (v.lanes[n]).runsRight
  ports : ∀ p : PortIx, (s.ports[p]).runsRight → (v.ports[p]).runsRight
  placed : ∀ d : DestIx, (s.dests[d]).fits s.entries[d] = true → (s.dests[d]).placed (outputRuns s d) →
    ¬ (trackScope d = scope ∧ skip d = false ∧ outputRuns v d = true) → (v.dests[d]).placed (outputRuns v d)

/-- The check completes what a settled scope has left to it (R73). -/
theorem Settled.checked (h : Settled scope skip s v) : Routes s (checkScope scope skip v) := by
  refine .ofEach (fun d hd => ?_) h.lanes h.ports fun d hd hp => ?_
  · rw [checkScope_dests]
    split
    · exact check_fits v.sources (h.fit d hd) _
    · exact h.fit d hd
  · rw [checkScope_outputRuns, checkScope_dests]
    cases hr : outputRuns v d with
    | true =>
      split
      next => exact check_running_placed _ _ _
      next hout =>
        rw [← hr]
        exact h.placed d hd hp fun e => hout ⟨e.1, e.2.1⟩
    | false =>
      have hv := h.placed d hd hp (by simp [hr])
      rw [hr] at hv
      rw [check_still _ _ hv, ite_self]
      exact hv

/-- Where no output side of the scope runs nothing is left to a check. -/
theorem Settled.routes (h : Settled scope skip s v) (hstopped : ∀ d, trackScope d = scope → outputRuns v d = false) :
    Routes s v :=
  .ofEach h.fit h.lanes h.ports fun d hd hp =>
    h.placed d hd hp fun e => by simp [hstopped d e.1] at e

/-- Between the settling of a scope and its check nothing starts or stops. -/
theorem Settled.between (h : Settled scope skip s v) (hdests : w.dests = v.dests) (hentries : w.entries = v.entries)
    (hlanes : ∀ n : LaneIx, LaneRuns v.lanes[n] w.lanes[n]) (hports : w.ports = v.ports) : Settled scope skip s w := by
  have hruns (d : DestIx) : outputRuns w d = outputRuns v d :=
    outputRuns_congr_running (fun n => (hlanes n).running) (fun p => by rw [hports]) d
  refine ⟨fun d hd => ?_, fun n hn => (hlanes n).right (h.lanes n hn), fun p => ?_, fun d => ?_⟩
  · rw [hdests, hentries]
    exact h.fit d hd
  · rw [hports]
    exact h.ports p
  · rw [hruns, hdests]
    exact h.placed d

theorem settledRecord_fits {t : State} {d : DestIx} {r : LiveRecord} {e : RouteEntry} (h : r.fits e = true) :
    (settledRecord scope t d r).fits e = true := by
  unfold settledRecord
  split
  · exact stopRecord_fits h
  · exact h

/-- A record of a settled scope is placed, but where its output side has just begun to run. -/
theorem settledRecord_placed {t : State} {d : DestIx} {r : LiveRecord} {e : RouteEntry} {runs : Bool}
    (h : r.fits e = true) (hp : r.placed runs) (hother : trackScope d ≠ scope → outputRuns t d = runs)
    (hstopped : trackScope d = scope → outputRuns t d = false) :
    (settledRecord scope t d r).placed (outputRuns t d) := by
  by_cases hd : trackScope d = scope
  · rw [settledRecord_stopped hd (hstopped hd), hstopped hd]
    exact stopRecord_placed h
  · rw [settledRecord_of_ne hd, hother hd]
    exact hp

theorem settleScope_outputRuns_ne {d : DestIx} (h : trackScope d ≠ scope) (s : State) :
    outputRuns (settleScope scope s) d = outputRuns s d := by
  rcases scope_cases scope with ⟨n, rfl⟩ | ⟨p, rfl⟩
  · rw [settleScope_laneScope]
    exact outputRuns_modifyLane_ne h (congrArg State.lanes (settleLane_eq n s)) rfl
  · rw [settleScope_portScope]
    exact outputRuns_modifyPort_ne h rfl (congrArg State.ports (settlePort_eq p s))

/-- A scope without a pending take settles (R83, R84). -/
theorem settleScope_settled (scope : Iface) (s : State) : Settled scope (fun _ => false) s (settleScope scope s) := by
  have hentries : (settleScope scope s).entries = s.entries := by rw [settleScope_eq]
  refine ⟨fun d hd => ?_, fun n hn => ?_, fun p hp => ?_, fun d hd hp hleft => ?_⟩
  · rw [settleScope_dests, hentries]
    exact settledRecord_fits hd
  · rcases scope_cases scope with ⟨m, rfl⟩ | ⟨p, rfl⟩
    · rw [settleScope_laneScope, settleLane_eq]
      dsimp only
      rw [modifyAt_getElem]
      split
      · exact settledLane_runsRight _
      · exact hn
    · rw [settleScope_portScope]
      exact hn
  · rcases scope_cases scope with ⟨m, rfl⟩ | ⟨q, rfl⟩
    · rw [settleScope_laneScope]
      exact hp
    · rw [settleScope_portScope, settlePort_eq]
      dsimp only
      rw [modifyAt_getElem]
      split
      · exact settledPort_runsRight _
      · exact hp
  · rw [settleScope_dests]
    refine settledRecord_placed hd hp (fun hne => settleScope_outputRuns_ne hne s) fun hsc => ?_
    simpa [hsc] using hleft

/-- An application of a take settles its scope, and the latched destinations act on their entries (R86 to R88, R159). -/
theorem applyTake_settled (lost : Option LaneIx) (t : Take) (s : State) :
    Settled t.scope (fun d => (latchedEntry t.latches d).isSome) s (applyTake lost t s) := by
  refine ⟨fun d hd => ?_, fun n hn => ?_, fun p hp => ?_, fun d hd hp hleft => ?_⟩
  · rw [applyTake_entries]
    cases he : latchedEntry t.latches d with
    | none =>
      rw [applyTake_dests_unlatched lost t s he]
      exact settledRecord_fits hd
    | some e =>
      rw [applyTake_dests_latched lost t s he]
      exact enterEntry_fits s.sources (settledRecord_fits hd) ..
  · rcases applyTake_lane_cases (s := s) (t := t) lost n with h | h <;> rw [h]
    · exact hn
    · exact settledLane_runsRight _
  · rcases applyTake_port (s := s) (t := t) lost p with h | h <;> rw [h]
    · exact hp
    · exact settledPort_runsRight _
  · have hsettled := settledRecord_placed (t := applyTake lost t s) hd hp
      fun hne => applyTake_outputRuns_ne hne lost s
    cases he : latchedEntry t.latches d with
    | none =>
      rw [applyTake_dests_unlatched lost t s he]
      exact hsettled fun hsc => by simpa [hsc, he] using hleft
    | some e =>
      rw [applyTake_dests_latched lost t s he]
      refine enterEntry_placed _ _ fun hr => ?_
      rw [hr] at hsettled
      exact hsettled fun _ => rfl

/-- A take applied where its scope is a lane that is not LOCKED (R157). -/
theorem applyTake_routes {t : Take} {n : LaneIx} (hsc : t.scope = laneScope n) (hun : (s.lanes[n]).inputState ≠ .locked)
    (lost : Option LaneIx) : Routes s (applyTake lost t s) := by
  refine (applyTake_settled lost t s).routes fun d hd => ?_
  rw [outputRuns_lane (trackPlace_eq_lane_of_scope (hsc ▸ hd)), applyTake_running_unlocked hsc lost hun]
  simp

theorem applyIfIdle_routes (t : Take) (s : State) : Routes s (applyIfIdle t s) := by
  by_cases hun : ∃ n : LaneIx, t.scope = laneScope n ∧ ¬ s.locks n
  · obtain ⟨n, hn, hl⟩ := hun
    rw [applyIfIdle_applies hn hl]
    exact applyTake_routes hn hl none
  · rw [applyIfIdle_waits fun n hn => by by_contra hl; exact hun ⟨n, hn, hl⟩]
    exact Routes.refl s

/-- A boundary: the scope settles, with the pending take if there is one, and the check completes it (R73, R157). -/
theorem boundary_routes (scope : Iface) {between : State → State} (s : State)
    (h : ∀ u, (between u).dests = u.dests ∧ (between u).entries = u.entries ∧ (between u).ports = u.ports
      ∧ ∀ n : LaneIx, LaneRuns u.lanes[n] (between u).lanes[n]) : Routes s (boundary scope between s) := by
  have hbetween {skip : DestIx → Bool} {v : State} (hv : Settled scope skip s v) : Settled scope skip s (between v) := by
    obtain ⟨hdests, hentries, hports, hlanes⟩ := h v
    exact hv.between hdests hentries hlanes hports
  cases hp : pendingOn s scope with
  | none =>
    rw [boundary_none hp]
    exact (hbetween (settleScope_settled scope s)).checked
  | some t =>
    obtain ⟨-, -, rfl⟩ := pendingOn_some hp
    rw [boundary_some hp]
    exact (hbetween (applyTake_settled none t s)).checked

end

end Sys2Proof.Machine
end

section
/-! Every request, and every event of a lane, a port and the station clock, keeps live records and output sides (O57, O58). -/

namespace Sys2Proof.Machine

/-! ### Requests (R25, R163 to R170) -/

section
variable {s : State}

theorem withRoom_routes {act : State → State} (h : Routes s (act s)) : Routes s (withRoom s act) := by
  unfold withRoom
  split
  · exact h
  · exact .of

theorem withIndex_routes {n : Nat} {i : Iface} {tag : Word} {kind : Byte} {params : List Word}
    {act : Fin n → State → State} (h : ∀ k, Routes s (act k s)) :
    Routes s (withIndex n i tag kind params s act) := by
  refine withRoom_routes ?_
  split
  · split
    · exact h _
    · exact .of
  · exact .of

theorem withoutParams_routes {i : Iface} {tag : Word} {kind : Byte} {params : List Word} {act : State → State}
    (h : Routes s (act s)) : Routes s (withoutParams i tag kind params s act) := by
  refine withRoom_routes ?_
  split
  · exact h
  · exact .of

theorem Routes.queued {t : State} (h : Routes s t) (i : Iface) (status : Status) (tag : Word) (kind : Byte)
    (data : List Word) : Routes s (queueReply i status tag kind data t) :=
  h.trans .of

variable (s) (i : Iface) (tag : Word) (params : List Word)

theorem setSource_routes : Routes s (setSource i tag params s) := by
  refine withRoom_routes ?_
  split
  · split <;> exact .of
  · exact .of

theorem setReference_routes : Routes s (setReference i tag params s) := by
  refine withRoom_routes ?_
  split
  · exact .of
  · split <;> exact .of
  · exact .of

theorem setReceive_routes (p : PortIx) (enable : Bool) : Routes s (setReceive p enable s) := by
  unfold setReceive
  split
  · exact Routes.modifyPort ⟨rfl, id⟩
  split
  · exact Routes.trans (t := s.modifyPort p stopReceive) (Routes.modifyPort ⟨rfl, id⟩) .of
  · exact Routes.refl s

theorem setTransmit_routes (p : PortIx) (enable : Bool) : Routes s (setTransmit p enable s) := by
  unfold setTransmit
  split
  · exact Routes.modifyPort ⟨rfl, fun h c hc => ⟨rfl, (h c hc).2⟩⟩
  · exact Routes.refl s
  · exact Routes.refl s
  · exact haltTransmit_routes ..

theorem setPort_routes : Routes s (setPort i tag params s) := by
  refine withRoom_routes ?_
  split
  · split
    · exact ((setReceive_routes ..).trans (setTransmit_routes ..)).queued ..
    · exact .of
  · exact .of

theorem clearRecordCounters_fits {e : RouteEntry} {r : LiveRecord} (h : r.fits e = true) :
    (clearRecordCounters r).fits e = true := by
  by_cases hs : r.state = .parked
  · obtain ⟨he, hr⟩ := (fits_parked_iff hs).1 h
    rw [hr]
    exact park_fits he (clearRecordCounters r)
  · revert h hs
    unfold LiveRecord.fits clearRecordCounters LiveRecord.sourceStream
    dsimp only
    cases r.state <;> simp

theorem zeroCounters_routes : Routes s (zeroCounters s) := by
  refine Routes.of (fit := fun d h => ?_) (lanes := fun n => ?_) (ports := fun p => ?_) (placed := fun d h => ?_)
  all_goals simp only [zeroCounters, updateAll_getElem_fin]
  · exact clearRecordCounters_fits h
  · exact ⟨rfl, id⟩
  · exact ⟨rfl, id⟩
  · exact placed_of_state rfl rfl h

/-- A record reset by RESET UNIT is PARKED where its entry is enabled and IDLE where it is not (R90). -/
theorem resetRecord_eq (e : RouteEntry) (r : LiveRecord) :
    resetRecord e r = if e.enabled then park .powerOn else idleSilent .powerOn := by
  unfold resetRecord
  split <;> rfl

theorem resetRecord_fits (e : RouteEntry) (r : LiveRecord) : (resetRecord e r).fits e = true := by
  rw [resetRecord_eq]
  split
  next he => exact park_fits he _
  next he => exact idleSilent_fits (by simpa using he) _

theorem resetRecord_placed (e : RouteEntry) (r : LiveRecord) : (resetRecord e r).placed false := by
  rw [resetRecord_eq]
  split
  · exact park_placed _
  · exact idleSilent_placed _ _

theorem outputRuns_of_stopped {t : State} (hl : ∀ n : LaneIx, (t.lanes[n]).running = Vector.replicate 4 false)
    (hp : ∀ p : PortIx, (t.ports[p]).running = Vector.replicate 4 false) (d : DestIx) : outputRuns t d = false := by
  unfold outputRuns
  split
  · rw [hl]
    simp
  · rw [hp]
    simp

theorem resetBlocks_routes : Routes s (resetBlocks s) := by
  have hlane (n : LaneIx) : ((resetBlocks s).lanes[n]).running = Vector.replicate 4 false := by
    simp only [resetBlocks, updateAll_getElem_fin]
    rfl
  have hport (p : PortIx) : ((resetBlocks s).ports[p]).running = Vector.replicate 4 false := by
    simp only [resetBlocks, updateAll_getElem_fin]
    rfl
  have hdest (d : DestIx) : (resetBlocks s).dests[d] = resetRecord s.entries[d] s.dests[d] := updateAll_getElem_fin ..
  refine .ofEach (fun d _ => ?_) (fun n _ => runsRight_of_stopped (hlane n)) (fun p _ => runsRight_of_silent (hport p))
    fun d _ _ => ?_
  · rw [hdest]
    exact resetRecord_fits ..
  · rw [hdest, outputRuns_of_stopped hlane hport]
    exact resetRecord_placed _ _

theorem openTake_routes : Routes s (openTake i tag params s) := by
  refine withIndex_routes fun scope => ?_
  split <;> exact .of

theorem setRoute_routes : Routes s (setRoute i tag params s) := by
  refine withRoom_routes ?_
  split
  · split
    · unfold routeRequest
      split
      · exact .of
      · split <;> exact .of
    · exact .of
  · exact .of

theorem setPlan_routes : Routes s (setPlan i tag params s) := by
  refine withRoom_routes ?_
  split
  · split
    · exact .of
    · split
      · exact .of
      · split <;> exact .of
  · exact .of

theorem commitTake_routes : Routes s (commitTake i tag params s) := by
  refine withoutParams_routes ?_
  split
  · exact .of
  next t _ => exact Routes.trans (t := { s with take := some (committed t tag) }) .of (applyIfIdle_routes ..)

theorem abandonTake_routes : Routes s (abandonTake i tag params s) := by
  refine withoutParams_routes ?_
  split <;> exact .of

theorem undoTake_routes : Routes s (undoTake i tag params s) := by
  refine withIndex_routes fun scope => ?_
  split
  · exact .of
  · split
    · exact .of
    · exact Routes.trans .of (applyIfIdle_routes ..)

theorem takeRequest_routes (kind : Byte) : Routes s (takeRequest i kind tag params s) := by
  unfold takeRequest
  split
  · exact withIndex_routes fun _ => .of
  · exact withIndex_routes fun _ => .of
  · exact withIndex_routes fun _ => .of
  · exact withIndex_routes fun _ => .of
  · exact withIndex_routes fun _ => .of
  · exact withoutParams_routes .of
  · exact withoutParams_routes .of
  · exact withoutParams_routes .of
  · exact setSource_routes ..
  · exact setReference_routes ..
  · exact setPort_routes ..
  · exact withoutParams_routes ((zeroCounters_routes s).queued ..)
  · exact withoutParams_routes ((resetBlocks_routes s).queued ..)
  · exact openTake_routes ..
  · exact setRoute_routes ..
  · exact setPlan_routes ..
  · exact commitTake_routes ..
  · exact abandonTake_routes ..
  · exact undoTake_routes ..
  · exact withRoom_routes .of

theorem handOver_routes (payload : List Word) : Routes s (handOver i payload s) := by
  unfold handOver
  split
  · exact takeRequest_routes ..
  · exact Routes.refl s

end

/-! ### Packets and lines of a lane (R31 to R48) -/

section
variable (s : State) (n : LaneIx)

theorem enterPassList_routes (group : Option GroupIx) (p : List Word) : Routes s (enterPassList n group p s) :=
  Routes.modifyLane ⟨rfl, id⟩

theorem stripSound_routes (g : GroupIx) (grade : Grade) (p : List Word) : Routes s (stripSound n g grade p s) := by
  have hseen (u : State) : Routes u (markSeen n g u) := Routes.modifyLane ⟨rfl, id⟩
  exact (Routes.trans .of (hseen _)).trans (enterPassList_routes ..)

theorem dropDamaged_routes (p : List Word) : Routes s (dropDamaged n p s) := by
  have hcount : Routes s (s.modifyLane n fun l =>
      { l with counters := { l.counters with damaged := raise l.counters.damaged 1 } }) := Routes.modifyLane ⟨rfl, id⟩
  unfold dropDamaged
  split
  · exact hcount.trans .of
  · exact hcount

theorem stripPacket_routes (p : List Word) : Routes s (stripPacket n s p) := by
  unfold stripPacket
  split
  · split
    · exact stripSound_routes ..
    · unfold stripMark
      split
      · rw [takeMark_frame]
        exact .of
      · exact enterPassList_routes ..
    · unfold stripRequest
      split
      · exact handOver_routes ..
      split
      · exact (handOver_routes ..).trans (enterPassList_routes ..)
      · exact enterPassList_routes ..
    · exact enterPassList_routes ..
    · exact enterPassList_routes ..
  · exact dropDamaged_routes ..

theorem stripPackets_routes (ps : List (List Word)) : Routes s (ps.foldl (stripPacket n) s) := by
  induction ps generalizing s with
  | nil => exact Routes.refl s
  | cons p ps ih => exact (stripPacket_routes s n p).trans (ih _)

theorem stripLine_routes (j : Nat) (blanking : List Word) : Routes s (stripLine n j blanking s) := by
  have hbegin : Routes s (beginPassList n s) := Routes.modifyLane ⟨rfl, id⟩
  have hfinish (u : State) (malformed : Bool) : Routes u (finishLine n j blanking malformed u) :=
    Routes.modifyLane ⟨rfl, id⟩
  exact (hbegin.trans (stripPackets_routes ..)).trans (hfinish _ _)

theorem evaluateGroups_routes : Routes s (evaluateGroups n s) :=
  Routes.of (lanes := fun m => by
    rw [evaluateGroups_lanes, modifyAt_getElem]
    split
    next hm => subst hm; exact ⟨rfl, id⟩
    next => exact LaneRuns.refl _)

/-! ### Lane loss (R14, R15) -/

theorem applyAtLoss_routes (hun : (s.lanes[n]).inputState ≠ .locked) : Routes s (applyAtLoss n s) := by
  unfold applyAtLoss
  split
  next t ht =>
    obtain ⟨-, -, hsc⟩ := pendingOn_some ht
    exact applyTake_routes hsc hun _
  next => exact Routes.refl s

theorem laneLoss_routes {state : InputState} (hstate : state ≠ .locked) (format : Option Format) :
    Routes s (laneLoss n state format s) := by
  have hpurge (u : State) : Routes u (purgeLane n u) :=
    Routes.trans (Routes.modifyLane ⟨rfl, id⟩) .of
  rw [laneLoss_eq]
  refine ((lostState_routes ..).trans (applyAtLoss_routes _ n ?_)).trans (hpurge _)
  rw [lostState_lane]
  exact hstate

/-- A lost lane is in the input state that its loss names (R14). -/
theorem laneLoss_inputState (state : InputState) (format : Option Format) :
    ((laneLoss n state format s).lanes[n]).inputState = state := by
  have hpurge (u : State) : ((purgeLane n u).lanes[n]).inputState = (u.lanes[n]).inputState := by
    simp only [purgeLane, State.modifyLane_lanes, modifyAt_getElem_self]
  rw [laneLoss_eq, hpurge, applyAtLoss]
  split
  · rw [applyTake_inputState, lostState_lane]
    rfl
  · rw [lostState_lane]
    rfl

/-! ### Signal, frame starts and carriage lines (R1 to R9, R139) -/

theorem setSignal_routes (on : Bool) : Routes s (setSignal n on s) := Routes.modifyLane ⟨rfl, id⟩

theorem bypassLine_routes (blanking : List Word) : Routes s (bypassLine n blanking s) := Routes.modifyLane ⟨rfl, id⟩

theorem openFrame_routes : Routes s (openFrame n s) := Routes.modifyLane ⟨rfl, id⟩

theorem closeFrame_routes : Routes s (closeFrame n s) := Routes.modifyLane ⟨rfl, id⟩

theorem setCandidate_routes (format : Option Format) : Routes s (setCandidate n format s) :=
  Routes.modifyLane ⟨rfl, id⟩

theorem inputFrameStart_routes : Routes s (inputFrameStart n s) := by
  rw [inputFrameStart_eq]
  exact .of

theorem acquireLane_runs (l : Lane) : LaneRuns l (acquireLane l) := by
  unfold acquireLane
  split
  next h => exact .of_unlocked (by rw [h]; decide) rfl
  next => exact LaneRuns.refl l

theorem signalLost_routes : Routes s (signalLost n s) := by
  unfold signalLost
  split
  next => exact Routes.refl s
  next h => exact Routes.modifyLane (.of_unlocked (by rw [h]; decide) rfl)
  next =>
    refine (laneLoss_routes s n (by decide) none).trans (Routes.modifyLane (.of_unlocked ?_ rfl))
    rw [laneLoss_inputState]
    decide

theorem lockLane_routes : Routes s (lockLane n s) := by
  refine Routes.trans (Routes.modifyLane ⟨rfl, fun h g hg => ⟨rfl, (h g hg).2⟩⟩) (Routes.updatePorts fun _ x => ?_)
  unfold takeUpClock
  split
  · exact ⟨rfl, id⟩
  · exact PortRuns.refl x

theorem frameStart_routes (timing : Option Format) : Routes s (frameStart n timing s) := by
  unfold frameStart
  dsimp only
  split
  · exact Routes.refl s
  · split
    · unfold closeAcquiring
      split
      · exact ((openFrame_routes ..).trans (lockLane_routes ..)).trans (inputFrameStart_routes ..)
      · exact (openFrame_routes ..).trans (setCandidate_routes ..)
    · exact openFrame_routes ..
  · split
    · unfold closeLocked
      split
      · exact ((evaluateGroups_routes ..).trans (openFrame_routes ..)).trans (inputFrameStart_routes ..)
      · exact (laneLoss_routes s n (by decide) _).trans (openFrame_routes ..)
    · exact openFrame_routes ..

theorem countedLine_routes (blanking : List Word) : Routes s (countedLine n blanking s) := by
  have hcount : Routes s (s.modifyLane n fun l => { l with lineCount := l.lineCount + 1 }) :=
    Routes.modifyLane ⟨rfl, id⟩
  unfold countedLine
  dsimp only
  split
  · exact hcount.trans (stripLine_routes ..)
  · exact hcount.trans (bypassLine_routes ..)

theorem longFrame_routes : Routes s (longFrame n s) := by
  unfold longFrame
  split
  · exact (laneLoss_routes s n (by decide) none).trans (closeFrame_routes ..)
  · exact (setCandidate_routes ..).trans (closeFrame_routes ..)

theorem carriageLine_routes (blanking : List Word) : Routes s (carriageLine n blanking s) := by
  unfold carriageLine
  dsimp only
  split
  · exact Routes.refl s
  split
  · exact bypassLine_routes ..
  split
  · exact countedLine_routes ..
  · exact (longFrame_routes ..).trans (bypassLine_routes ..)

/-! ### Boundaries and the build of a line (R7, R73, R105 to R115) -/

theorem setPhase_runs (u : State) (m : LaneIx) : LaneRuns u.lanes[m] (setPhase n u).lanes[m] := by
  obtain ⟨slips, hlanes⟩ := setPhase_lane_eq n u
  rw [hlanes, modifyAt_getElem]
  split
  next hm => subst hm; exact ⟨rfl, id⟩
  next => exact LaneRuns.refl _

theorem outputFrameStart_routes : Routes s (outputFrameStart n s) := by
  unfold outputFrameStart
  split
  · exact boundary_routes _ s fun u => ⟨rfl, rfl, rfl, setPhase_runs n u⟩
  · exact Routes.refl s

/-- Reads of some running destinations: each stays in its state, and reads only where its output side runs (R79). -/
theorem reads_routes {q : DestIx → Prop} [DecidablePred q] (count : Nat) (hq : ∀ d, q d → outputRuns s d = true) :
    Routes s (s.updateDests fun d r => if q d then (readMany s.sources s.entries[d] count r).1 else r) := by
  refine Routes.updateDests (fun d r h => ?_) fun d r h => ?_
  · split
    · exact readMany_fits s.sources h count
    · exact h
  · split
    next hd =>
      rw [hq d hd, placed_running] at h ⊢
      rwa [readMany_state]
    next => exact h

theorem lineReads_routes (count : Nat) : Routes s (lineReads n count s) := by
  refine Routes.trans (reads_routes s (q := fun d => (decide (trackPlace d = .lane n)
    && groupReads s.lanes[n] (trackGroup d)) = true) count fun d hd => ?_) (Routes.modifyLane ⟨rfl, id⟩)
  simp only [groupReads, Bool.and_eq_true, decide_eq_true_eq] at hd
  obtain ⟨hplace, hruns, -⟩ := hd
  rw [outputRuns_lane hplace]
  exact hruns

theorem placeLine_routes (a : AwaitingBuild) : Routes s (placeLine n a s) := by
  refine Routes.of (lanes := fun m => ?_)
  by_cases hm : m = n
  · subst hm
    rw [placeLine_lane]
    exact ⟨rfl, id⟩
  · rw [placeLine_lane_ne _ _ _ hm]
    exact LaneRuns.refl _

theorem outputLineBuild_routes : Routes s (outputLineBuild n s) := by
  unfold outputLineBuild
  split
  next a _ _ =>
    refine ((lineReads_routes ..).trans (placeLine_routes ..)).trans (Routes.updatePorts fun _ x => ?_)
    split
    · exact clockSamples_runs _ x
    · exact PortRuns.refl x
  next => exact Routes.refl s

end

/-! ### The receive side of a port (R122 to R127) -/

section
variable (s : State) (p : PortIx)

theorem receiveWord_routes (w : PortWord) : Routes s (s.modifyPort p (receiveWord w)) := by
  refine Routes.modifyPort ?_
  unfold receiveWord
  split
  · exact ⟨rfl, id⟩
  · exact PortRuns.refl _

theorem setStaging_routes (g : Staging) : Routes s (setStaging p g s) := Routes.modifyPort ⟨rfl, id⟩

theorem countDiscard_routes : Routes s (countDiscard p s) := Routes.modifyPort ⟨rfl, id⟩

theorem goodBundle_routes (c : ChanIx) (count : Byte) (n : Nat) (body : List Word) :
    Routes s (goodBundle p c count n body s) :=
  Routes.trans .of (Routes.modifyPort ⟨rfl, id⟩)

theorem judgeBundle_routes (channel : Nat) (count : Byte) (n : Nat) (words : List Word) (length : Nat) :
    Routes s (judgeBundle p channel count n words length s) := by
  unfold judgeBundle
  split
  · split
    · exact goodBundle_routes ..
    · exact countDiscard_routes ..
  split
  · split
    · unfold controlBundleTaken
      split
      · exact handOver_routes ..
      · exact Routes.refl s
    · exact countDiscard_routes ..
  · exact countDiscard_routes ..

theorem stageWord_routes (w : PortWord) : Routes s (stageWord p w s) := by
  have hdiscard (g : Staging) : Routes s (setStaging p g (countDiscard p s)) :=
    (countDiscard_routes ..).trans (setStaging_routes ..)
  unfold stageWord
  split
  · unfold stageIdle
    split
    · split
      · exact setStaging_routes ..
      · exact Routes.refl s
    · exact Routes.refl s
  · unfold stageHeader
    split
    · split
      · exact hdiscard _
      · exact hdiscard _
    · exact setStaging_routes ..
  · unfold stageBody
    split
    · split
      · exact hdiscard _
      · exact (setStaging_routes ..).trans (judgeBundle_routes ..)
      · exact (setStaging_routes ..).trans (countDiscard_routes ..)
    · exact setStaging_routes ..

theorem takeStagingWord_routes : Routes s (takeStagingWord p s) := by
  unfold takeStagingWord
  split
  · exact Routes.trans (Routes.modifyPort ⟨rfl, id⟩) (stageWord_routes ..)
  · exact Routes.refl s

theorem absenceTimeout_routes (c : ChanIx) : Routes s (absenceTimeout p c s) :=
  Routes.trans .of (Routes.modifyPort ⟨rfl, id⟩)

/-! ### The transmit side of a port (R129 to R135) -/

theorem portFrame_routes : Routes s (portFrame p s) := by
  have hdue : Routes s (s.modifyPort p fun x => { x with frameDue := false }) := Routes.modifyPort ⟨rfl, id⟩
  have hboundary := boundary_routes (portScope p) (between := id) (s.modifyPort p fun x => { x with frameDue := false })
    fun u => ⟨rfl, rfl, rfl, fun _ => LaneRuns.refl _⟩
  exact (hdue.trans hboundary).trans (Routes.modifyPort (clockSamples_runs 0 _))

theorem periodReads_routes : Routes s (periodReads p s) := by
  refine reads_routes s 16 fun d hd => ?_
  rw [outputRuns_port hd.1]
  exact hd.2

theorem writeReply_routes : Routes s (writeReply p s) := by
  unfold writeReply
  split
  · split
    · exact Routes.trans (Routes.modifyPort ⟨rfl, id⟩) .of
    · exact Routes.refl s
  · exact Routes.refl s

theorem portPeriod_routes : Routes s (portPeriod p s) := by
  have hcount (u : State) : Routes u (countPeriod p u) := Routes.modifyPort ⟨rfl, id⟩
  unfold portPeriod
  split
  · refine (((periodReads_routes s p).trans (Routes.modifyPort ?_)).trans (writeReply_routes ..)).trans (hcount _)
    rw [writeChannels_frame]
    exact ⟨rfl, id⟩
  · exact hcount s
  · exact Routes.refl s

theorem stallPort_routes : Routes s (stallPort p s) := by
  unfold stallPort
  split
  · exact (haltTransmit_routes ..).trans (Routes.modifyPort ⟨rfl, id⟩)
  · exact Routes.refl s

/-- No channel runs while transmit is STALLED, so none runs when it resumes (R84, R132). -/
theorem giveWord_routes : Routes s (s.modifyPort p giveWord) := by
  refine Routes.modifyPort ?_
  unfold giveWord
  split
  · exact PortRuns.refl _
  · refine ⟨rfl, fun h c hc => ⟨?_, (h c hc).2⟩⟩
    dsimp only
    rw [(h c hc).1, ite_self]

/-! ### The station clock and power-on reset (R127, R129, R154, R173) -/

theorem stationSample_routes : Routes s (stationSample s) := by
  refine Routes.of (ports := fun q => ?_)
  simp only [stationSample, updateAll_getElem_fin]
  unfold tickPort
  dsimp only
  split <;> exact ⟨rfl, id⟩

theorem releaseReset_routes (straps : Straps) : Routes s (releaseReset straps s) := by
  have hlane (n : LaneIx) : ((releaseReset straps s).lanes[n]).running = Vector.replicate 4 false := by
    rw [show (releaseReset straps s).lanes[n] = releaseLane s.lanes[n] from updateAll_getElem_fin ..]
    unfold releaseLane acquireLane
    split
    · split <;> rfl
    · rfl
  have hport (q : PortIx) : ((releaseReset straps s).ports[q]).running = Vector.replicate 4 false := by
    simp [releaseReset, State.powerOn, Port.powerOn]
  have hdest (d : DestIx) : (releaseReset straps s).dests[d] = idleSilent .powerOn := by
    simp [releaseReset, State.powerOn, idleSilent]
  have hentry (d : DestIx) : (releaseReset straps s).entries[d] = RouteEntry.powerOn := by
    simp [releaseReset, State.powerOn]
  refine .ofEach (fun d _ => ?_) (fun n _ => runsRight_of_stopped (hlane n)) (fun q _ => runsRight_of_silent (hport q))
    fun d _ _ => ?_
  · rw [hdest, hentry]
    exact idleSilent_fits rfl _
  · rw [hdest]
    exact idleSilent_placed _ _

end

/-! ### Every command -/

section
variable {s t : State}

theorem powered_routes {f : State → State} (h : Routes s (f s)) (ht : powered s f = .next t) : Routes s t := by
  cases ht
  split
  · exact Routes.refl s
  · exact h

/-- A request row is the control unit's taking of its request; while power-on reset is held it changes nothing (R25, R163). -/
theorem request_routes {c : Instr} {q : Request} (hq : requestOf c = some q) (ht : exec c s = .next t) : Routes s t := by
  cases hs : s.resetHeld with
  | true =>
    obtain ⟨u, hu, hframe, hlanes⟩ := (powerOnResetHoldsBypass s).2.2 hs c fun _ _ _ e => by subst e; cases hq
    rw [hu] at ht
    cases ht
    rw [hframe]
    refine Routes.of (lanes := fun n => ?_)
    dsimp only
    rw [hlanes]
    exact ⟨rfl, id⟩
  | false =>
    obtain ⟨kind, -, hexec | ⟨-, hexec⟩⟩ := exec_request_cases hs hq <;> rw [hexec] at ht <;> cases ht
    · exact takeRequest_routes ..
    · exact withRoom_routes .of

theorem linkSignalAppears_routes {n : LaneIx} (ht : execLinkSignalAppears n s = .next t) : Routes s t := by
  unfold execLinkSignalAppears at ht
  split at ht <;> cases ht
  · exact setSignal_routes ..
  · exact (setSignal_routes ..).trans (Routes.modifyLane (acquireLane_runs _))

theorem linkSignalLost_routes {n : LaneIx} (ht : execLinkSignalLost n s = .next t) : Routes s t := by
  unfold execLinkSignalLost at ht
  split at ht <;> cases ht
  · exact (setSignal_routes ..).trans (Routes.modifyLane ⟨rfl, id⟩)
  · exact (setSignal_routes ..).trans (signalLost_routes ..)

theorem inputCarriageLine_routes {n : LaneIx} {blanking : List Word} (ht : execInputCarriageLine n blanking s = .next t) :
    Routes s t := by
  unfold execInputCarriageLine at ht
  split at ht <;> cases ht
  · split
    · exact bypassLine_routes ..
    · exact Routes.refl s
  · exact carriageLine_routes ..

theorem execPortPeriod_routes {p : PortIx} (ht : execPortPeriod p s = .next t) : Routes s t :=
  powered_routes (f := fun s => portPeriod p (s.modifyPort p fun x => { x with periodDue := false }))
    (Routes.trans (Routes.modifyPort ⟨rfl, id⟩) (portPeriod_routes ..)) ht

theorem takeExpiry_routes (ht : execTakeExpiry s = .next t) : Routes s t := by
  refine powered_routes ?_ ht
  split
  · split
    · exact .of
    · exact Routes.refl s
  · exact Routes.refl s

theorem exec_routes (c : Instr) (ht : exec c s = .next t) : Routes s t := by
  cases hq : requestOf c with
  | some q => exact request_routes hq ht
  | none =>
    cases c with
    | powerOnResetAssert => cases ht; exact .of
    | powerOnResetRelease u role lane => cases ht; exact releaseReset_routes ..
    | linkSignalAppears n => exact linkSignalAppears_routes ht
    | linkSignalLost n => exact linkSignalLost_routes ht
    | frameStart n timing => exact powered_routes (frameStart_routes ..) ht
    | inputCarriageLine n blanking => exact inputCarriageLine_routes ht
    | outputFrameStart n => exact powered_routes (outputFrameStart_routes ..) ht
    | outputLineBuild n => exact powered_routes (outputLineBuild_routes ..) ht
    | portWordReceived p w => exact powered_routes (f := fun s => s.modifyPort p (receiveWord w)) (receiveWord_routes ..) ht
    | stagingWordTaken p => exact powered_routes (takeStagingWord_routes ..) ht
    | channelAbsenceTimeout p c => exact powered_routes (absenceTimeout_routes ..) ht
    | portFrame p => exact powered_routes (portFrame_routes ..) ht
    | portPeriod p => exact execPortPeriod_routes ht
    | transmitStall p => exact powered_routes (stallPort_routes ..) ht
    | outFifoWordTaken p => exact powered_routes (f := fun s => s.modifyPort p giveWord) (giveWord_routes ..) ht
    | takeExpiry => exact takeExpiry_routes ht
    | _ => cases hq

theorem idleStep_routes (ht : idleStep s = .next t) : Routes s t := by
  unfold idleStep at ht
  split at ht
  · cases ht
    exact Routes.refl s
  · split at ht
    · exact exec_routes _ ht
    · cases ht
      exact stationSample_routes s

theorem step_routes (ht : step s = .next t) : Routes s t := by
  unfold step at ht
  split at ht
  next c rest _ => exact Routes.trans (t := { s with pending := rest }) .of (exec_routes c ht)
  next => exact idleStep_routes ht

end

/-- Settles O57: every command's change keeps each live record fitting its entry. -/
theorem stepKeepsRecordsFit : Obligations.StepKeepsRecordsFit := fun _ _ h => (step_routes h).fit

/-- Settles O58: every command's change keeps output sides and fitting records in agreement. -/
theorem stepKeepsOutputsConsistent : Obligations.StepKeepsOutputsConsistent := fun _ _ h => (step_routes h).outputs

end Sys2Proof.Machine
end

section
/-! The frame-start check of a destination, row by row (R67, R70 to R78): O28. -/

namespace Sys2Proof.Machine

/-! ### Candidate tests and selection (R67, R71, R72, R75, R76) -/

theorem codeThreshold_eq (c : Fin 8) : codeThreshold c = if c.val = 0 then 512 else 64 * c.val := by
  simp only [codeThreshold, Fin.ext_iff, Fin.val_zero]

theorem usable_iff (e : RouteEntry) (x : Source) :
    usable e x = true ↔ x.present = true ∧ (e.silenceWatch = true →
      x.silentRun < if e.failCode.val = 0 then 512 else 64 * e.failCode.val) := by
  cases hw : e.silenceWatch <;> simp [usable, hw, codeThreshold_eq]

theorem readyToRevert_iff (e : RouteEntry) (x : Source) :
    readyToRevert e x = true ↔ usable e x = true ∧
      (if e.revertCode.val = 0 then 512 else 64 * e.revertCode.val) ≤
        if e.silenceWatch then x.activeRun else x.presentRun := by
  simp only [readyToRevert, Bool.and_eq_true, decide_eq_true_eq, codeThreshold_eq]

/-- The first candidate that passes a test is picked. -/
theorem pick_of_first {p : Nat → SourceIx → Bool} {cs : List SourceIx} {b : Nat} {c : SourceIx} {i : Nat}
    (hc : cs[b]? = some c) (hp : p (i + b) c = true)
    (hbefore : ∀ b' c', b' < b → cs[b']? = some c' → p (i + b') c' = false) : pick p i cs = some (i + b, c) := by
  induction cs generalizing i b with
  | nil => simp at hc
  | cons d cs ih =>
    cases b with
    | zero =>
      obtain rfl : d = c := by simpa using hc
      simp only [pick, Nat.add_zero] at hp ⊢
      rw [if_pos hp]
    | succ b =>
      have hd : p i d = false := hbefore 0 d (Nat.succ_pos b) rfl
      have hrest := ih (i := i + 1) (b := b) hc (by rwa [Nat.add_right_comm]) fun b' c' hlt hc' => by
        rw [Nat.add_right_comm]
        exact hbefore (b' + 1) c' (Nat.succ_lt_succ hlt) hc'
      simp only [pick, hd, Bool.false_eq_true, if_false, hrest, Nat.add_right_comm i 1 b, Nat.add_assoc]

theorem pick_of_none {p : Nat → SourceIx → Bool} {cs : List SourceIx} {i : Nat}
    (h : ∀ b c, cs[b]? = some c → p (i + b) c = false) : pick p i cs = none := by
  induction cs generalizing i with
  | nil => rfl
  | cons d cs ih =>
    have hd : p i d = false := h 0 d rfl
    simp only [pick, hd, Bool.false_eq_true, if_false]
    refine ih fun b c hc => ?_
    rw [Nat.add_right_comm]
    exact h (b + 1) c hc

section
variable {sources : Vector Source 192} {e : RouteEntry} {b : Nat} {c : SourceIx}

/-- Candidate b, source c, is the first that passes a test. -/
def RouteEntry.firstWith (e : RouteEntry) (p : SourceIx → Prop) (b : Nat) (c : SourceIx) : Prop :=
  e.candidates[b]? = some c ∧ p c ∧ ∀ (b' : Nat) (c' : SourceIx), b' < b → e.candidates[b']? = some c' → ¬ p c'

theorem mostPreferred_of_first (h : e.firstWith (fun c => usable e sources[c] = true) b c) :
    mostPreferred sources e = some (b, c) := by
  obtain ⟨hc, hgood, hbefore⟩ := h
  rw [mostPreferred, pick_of_first hc hgood fun b' c' hlt hc' => by simpa using hbefore b' c' hlt hc', Nat.zero_add]

theorem mostPreferred_of_none (h : ∀ c ∈ e.candidates, ¬ usable e sources[c] = true) : mostPreferred sources e = none :=
  pick_of_none fun _ c hc => by simpa using h c (List.mem_of_getElem? hc)

/-- With the active candidate not usable, the fallback is the most preferred usable candidate of all (R75). -/
theorem fallback_of_first {a : Nat} (ha : ∀ c, e.candidates[a]? = some c → ¬ usable e sources[c] = true)
    (h : e.firstWith (fun c => usable e sources[c] = true) b c) : fallback sources e a = some (b, c) := by
  obtain ⟨hc, hgood, hbefore⟩ := h
  have hba : b ≠ a := fun hba => ha c (hba ▸ hc) hgood
  rw [fallback, pick_of_first hc (by simpa [hba] using hgood) fun b' c' hlt hc' => ?_, Nat.zero_add]
  rw [Bool.and_eq_false_iff]
  exact .inr (by simpa using hbefore b' c' hlt hc')

theorem fallback_of_none (h : ∀ c ∈ e.candidates, ¬ usable e sources[c] = true) (a : Nat) :
    fallback sources e a = none :=
  pick_of_none fun _ c hc => Bool.and_eq_false_iff.2 (.inr (by simpa using h c (List.mem_of_getElem? hc)))

theorem revertTarget_of_first {a : Nat} (hba : b < a)
    (h : e.firstWith (fun c => readyToRevert e sources[c] = true) b c) : revertTarget sources e a = some (b, c) := by
  obtain ⟨hc, hready, hbefore⟩ := h
  rw [revertTarget, pick_of_first hc (by simpa [hba] using hready) fun b' c' hlt hc' => ?_, Nat.zero_add]
  rw [Bool.and_eq_false_iff]
  exact .inr (by simpa using hbefore b' c' hlt hc')

theorem revertTarget_of_none {a : Nat}
    (h : ∀ b c, b < a → e.candidates[b]? = some c → ¬ readyToRevert e sources[c] = true) :
    revertTarget sources e a = none := by
  refine pick_of_none fun b c hc => ?_
  rw [Nat.zero_add]
  by_cases hba : b < a
  · simpa [hba] using h b c hba hc
  · simp [hba]

theorem activeUsable_iff (a : Nat) :
    activeUsable sources e a = true ↔ ∃ c, e.candidates[a]? = some c ∧ usable e sources[c] = true := by
  unfold activeUsable
  cases e.candidates[a]? <;> simp

end

/-! ### Streams and fades as the statements write them (R69, R70, R77, R78) -/

theorem absenceStream_eq (e : RouteEntry) (v : Sample) :
    absenceStream e v = if e.absenceFill = .hold then .hold v else .silence := by
  cases h : e.absenceFill <;> simp [absenceStream, h]

/-- The read count of a realign: D behind the write count (R77). -/
theorem realign_readCount (w r : Count) (delay : Nat) :
    r + BitVec.ofInt 24 (drift (w - r).toNat delay) = w - BitVec.ofNat 24 delay := by
  have hdrift : BitVec.ofInt 24 (drift (w - r).toNat delay) = (w - r) - BitVec.ofNat 24 delay := by
    rw [drift, Int.sub_eq_add_neg, BitVec.ofInt_add, BitVec.ofInt_neg, BitVec.ofInt_natCast, BitVec.ofInt_natCast,
      BitVec.ofNat_toNat, BitVec.setWidth_eq, ← BitVec.sub_eq_add_neg (w - r)]
  rw [hdrift]
  ring

theorem driftAllowed_iff (fill delay : Nat) :
    driftAllowed fill delay = true ↔ delay ≤ fill + 64 ∧ fill ≤ delay + 64 := by
  unfold driftAllowed drift
  rw [decide_eq_true_iff]
  omega

theorem realign_eq (sources : Vector Source 192) (delay : Nat) (st : SourceStream) (gain : Word) (invert mute : Bool)
    (r : LiveRecord) :
    realign sources[st.source] delay st gain invert mute r =
      { r.fadingTo (.source {
          source := st.source, readCount := (sources[st.source]).writeCount - BitVec.ofNat 24 delay, gain := gain
          invert := invert, mute := mute, lastYield := none }) with
        counters := { r.counters with realigns := raise r.counters.realigns 1 } } := by
  simp only [realign, makeStream, streamFill, realign_readCount]
  rfl

/-! ### The rows of the check (R73 to R77) -/

section
variable (sources : Vector Source 192) {e : RouteEntry} {r : LiveRecord} {a : Nat} {st : SourceStream}

theorem start_first {b : Nat} {c : SourceIx} (h : e.firstWith (fun c => usable e sources[c] = true) b c)
    (r : LiveRecord) : start sources e r = reseat sources e b c r := by
  simp only [start, mostPreferred_of_first h]

theorem start_none (h : ∀ c ∈ e.candidates, ¬ usable e sources[c] = true) (hr : r.state ≠ .filling) :
    start sources e r = if r.fade < 32 then fillFaded e r else fillUnfaded e r := by
  unfold start
  rw [mostPreferred_of_none h]
  dsimp only
  split
  next hs => exact absurd hs hr
  next => rfl

theorem start_none_filling (h : ∀ c ∈ e.candidates, ¬ usable e sources[c] = true) (hr : r.state = .filling) :
    start sources e r = r := by
  simp only [start, mostPreferred_of_none h, hr]

theorem fillUnfaded_eq (h : r.fade = 32) : fillUnfaded e r = { r with
    state := .filling, active := none
    current := some (.fill (if e.absenceFill = .hold then .hold r.lastOut else .silence)), old := none } := by
  rw [← absenceStream_eq, fillUnfaded, ← h]

theorem fillFaded_eq (e : RouteEntry) (r : LiveRecord) : fillFaded e r =
    { r.fadingTo (.fill (if e.absenceFill = .hold then .hold r.lastOut else .silence)) with
      state := .filling, active := none } := by
  rw [← absenceStream_eq]
  rfl

theorem check_starts {running : Bool} (h : r.state = .filling ∨ (r.state = .parked ∧ running = true)) :
    check sources e running r = start sources e r := by
  rcases h with hs | ⟨hs, hr⟩
  · simp only [check, hs]
  · simp only [check, hs, hr, if_true]

theorem check_fails_over (hs : r.state = .active) (ha : r.active = some a)
    (hbad : ∀ c, e.candidates[a]? = some c → ¬ usable e sources[c] = true) (running : Bool) :
    check sources e running r = failover sources e a r := by
  have hnot : ¬ activeUsable sources e a = true := by
    rw [activeUsable_iff]
    rintro ⟨c, hc, hgood⟩
    exact hbad c hc hgood
  simp only [check, hs, ha, Option.getD_some]
  exact if_neg hnot

theorem check_keeps_candidate (hs : r.state = .active) (ha : r.active = some a) {c : SourceIx}
    (hc : e.candidates[a]? = some c) (hgood : usable e sources[c] = true) (running : Bool) :
    check sources e running r = revertOrDrift sources e a r := by
  simp only [check, hs, ha, Option.getD_some]
  exact if_pos ((activeUsable_iff a).2 ⟨c, hc, hgood⟩)

theorem revertOrDrift_reverts (hauto : e.policy = .auto) {b : Nat} {c : SourceIx}
    (h : revertTarget sources e a = some (b, c)) (r : LiveRecord) : revertOrDrift sources e a r =
      reseat sources e b c { r with counters := { r.counters with reverts := raise r.counters.reverts 1 } } := by
  simp only [revertOrDrift, hauto, if_true, h]

theorem revertOrDrift_drifts (h : e.policy = .latched ∨ revertTarget sources e a = none)
    (hst : r.current = some (.source st)) : revertOrDrift sources e a r = driftTest sources e st r := by
  have hnone : (if e.policy = .auto then revertTarget sources e a else none) = none := by
    rcases h with hp | hn
    · simp [hp]
    · rw [hn, ite_self]
  simp only [revertOrDrift, hnone, LiveRecord.sourceStream, hst]

theorem driftTest_lapped (h : 8191 < st.fillIn sources) (r : LiveRecord) :
    driftTest sources e st r = lapReseat sources e st.source r :=
  if_pos h

theorem driftTest_near (hlap : st.fillIn sources ≤ 8191) (hlow : e.delay ≤ st.fillIn sources + 64)
    (hhigh : st.fillIn sources ≤ e.delay + 64) (r : LiveRecord) : driftTest sources e st r = r :=
  (if_neg (Nat.not_lt.2 hlap)).trans (if_pos ((driftAllowed_iff _ _).2 ⟨hlow, hhigh⟩))

theorem driftTest_drifted (hlap : st.fillIn sources ≤ 8191)
    (hfar : st.fillIn sources + 64 < e.delay ∨ e.delay + 64 < st.fillIn sources) (r : LiveRecord) :
    driftTest sources e st r = realign sources[st.source] e.delay st st.gain st.invert st.mute r := by
  refine (if_neg (Nat.not_lt.2 hlap)).trans (if_neg fun h => ?_)
  have hnear : e.delay ≤ st.fillIn sources + 64 ∧ st.fillIn sources ≤ e.delay + 64 := (driftAllowed_iff _ _).1 h
  omega

theorem failover_first (hbad : ∀ c, e.candidates[a]? = some c → ¬ usable e sources[c] = true) {b : Nat} {c : SourceIx}
    (h : e.firstWith (fun c => usable e sources[c] = true) b c) (r : LiveRecord) : failover sources e a r =
      reseat sources e b c { r with counters := { r.counters with failovers := raise r.counters.failovers 1 } } := by
  simp only [failover, fallback_of_first hbad h]

theorem failover_none (h : ∀ c ∈ e.candidates, ¬ usable e sources[c] = true) (a : Nat) (r : LiveRecord) :
    failover sources e a r =
      fillFaded e { r with counters := { r.counters with failovers := raise r.counters.failovers 1 } } := by
  simp only [failover, fallback_of_none h]

end

/-- Settles O28: the check by state, then by the tests of the candidates, then by the drift of the stream. -/
theorem failoverTakesMostPreferred : Obligations.FailoverTakesMostPreferred := by
  intro sources e running r threshold good ready first noneGood fill t
  have hgood (c : SourceIx) : good c ↔ usable e sources[c] = true := (usable_iff e _).symm
  have hready (c : SourceIx) : ready c ↔ readyToRevert e sources[c] = true := by
    rw [readyToRevert_iff, ← hgood]
  have hfirst {p : SourceIx → Prop} {q : SourceIx → Prop} (hpq : ∀ c, p c ↔ q c) {b : Nat} {c : SourceIx}
      (h : first (fun _ c => p c) b c) : e.firstWith q b c :=
    ⟨h.1, (hpq c).1 h.2.1, fun b' c' hlt hc' hq => h.2.2 b' c' hlt hc' ((hpq c').2 hq)⟩
  have hnone (h : noneGood) : ∀ c ∈ e.candidates, ¬ usable e sources[c] = true :=
    fun c hc hu => h c hc ((hgood c).2 hu)
  refine ⟨fun a hs ha => ⟨fun hbad => ?_, fun c₀ hc₀ hg => ?_⟩, fun hst => ⟨fun b c hf => ?_, fun hs hn => ?_,
    fun hs hfade hn => ?_⟩, fun hstill => ?_⟩
  · have hbad' : ∀ c, e.candidates[a]? = some c → ¬ usable e sources[c] = true :=
      fun c hc hu => hbad c hc ((hgood c).2 hu)
    have hfail : t = failover sources e a r := check_fails_over sources hs ha hbad' running
    refine ⟨fun hn => ?_, fun b c hf => ?_⟩
    · rw [hfail, failover_none sources (hnone hn), fillFaded_eq]
      rfl
    · rw [hfail, failover_first sources hbad' (hfirst hgood hf), reseat, ← hs]
      rfl
  · have hkeep : t = revertOrDrift sources e a r :=
      check_keeps_candidate sources hs ha hc₀ ((hgood c₀).1 hg) running
    refine ⟨fun b c hauto hba hf => ?_, fun st hcur hno => ?_⟩
    · rw [hkeep, revertOrDrift_reverts sources hauto (revertTarget_of_first hba (hfirst hready hf)), reseat, ← hs]
      rfl
    · have hdrift : t = driftTest sources e st r := by
        refine hkeep.trans (revertOrDrift_drifts sources (hno.imp_right fun h => ?_) hcur)
        exact revertTarget_of_none fun b c hba hc hr => h b c hba hc ((hready c).2 hr)
      refine ⟨fun hlap => ?_, fun hlap hlow hhigh => ?_, fun hlap hfar => ?_⟩
      · exact hdrift.trans (driftTest_lapped sources hlap r)
      · exact hdrift.trans (driftTest_near sources hlap hlow hhigh r)
      · exact (hdrift.trans (driftTest_drifted sources hlap hfar r)).trans (realign_eq sources e.delay st ..)
  · exact (check_starts sources hst).trans (start_first sources (hfirst hgood hf) r)
  · exact (check_starts sources hst).trans (start_none_filling sources (hnone hn) hs)
  · have hne : r.state ≠ .filling := by simp [hs]
    refine (check_starts sources hst).trans ((start_none sources (hnone hn) hne).trans ?_)
    rw [if_neg (by omega), fillUnfaded_eq hfade]
  · rcases hstill with hs | ⟨hs, hr⟩
    · simp only [t, check, hs]
    · simp only [t, check, hs, hr, Bool.false_eq_true, if_false]

end Sys2Proof.Machine
end

section
/-! What a live record does on a new entry, row by row, and an ACTIVE one near its delay (R71, R74 to R78, R86 to R88):
O27. -/

namespace Sys2Proof.Machine

/-! ### The fill of an ACTIVE record after a check and a new entry (R74 to R78, R86, R87) -/

/-- An ACTIVE record's source stream has its fill within D − 64 to D + 64. -/
def LiveRecord.nearDelay (sources : Vector Source 192) (delay : Nat) (t : LiveRecord) : Prop :=
  t.state = .active → ∀ st : SourceStream, t.current = some (.source st) →
    delay ≤ st.fillIn sources + 64 ∧ st.fillIn sources ≤ delay + 64

section
variable {sources : Vector Source 192} {e : RouteEntry} {delay : Nat} {r : LiveRecord}

theorem nearDelay_of_state (h : r.state ≠ .active) : r.nearDelay sources delay := fun hs => absurd hs h

theorem sub_sub_ofNat_toNat (w : Count) (h : delay < 16777216) : (w - (w - BitVec.ofNat 24 delay)).toNat = delay := by
  have hself : w - (w - BitVec.ofNat 24 delay) = BitVec.ofNat 24 delay := by ring
  rw [hself, BitVec.toNat_ofNat, Nat.mod_eq_of_lt h]

/-- A stream placed D behind its source's write count is near D. -/
theorem nearDelay_of_placed (hd : delay < 16777216) {st : SourceStream} (hcur : r.current = some (.source st))
    (hread : st.readCount = (sources[st.source]).writeCount - BitVec.ofNat 24 delay) : r.nearDelay sources delay := by
  intro _ st' hst'
  obtain rfl : st = st' := by simpa [hcur] using hst'
  have hfill : st.fillIn sources = delay := by
    rw [SourceStream.fillIn, hread]
    exact sub_sub_ofNat_toNat _ hd
  omega

/-- A stream whose drift is allowed is near D. -/
theorem nearDelay_of_allowed {st : SourceStream} (hcur : r.current = some (.source st))
    (h : driftAllowed (st.fillIn sources) delay = true) : r.nearDelay sources delay := by
  intro _ st' hst'
  obtain rfl : st = st' := by simpa [hcur] using hst'
  exact (driftAllowed_iff _ _).1 h

section
variable (hd : e.delay < 16777216)
include hd

theorem reseat_near (a : Nat) (i : SourceIx) (r : LiveRecord) : (reseat sources e a i r).nearDelay sources e.delay :=
  nearDelay_of_placed hd rfl rfl

theorem lapReseat_near (i : SourceIx) (r : LiveRecord) : (lapReseat sources e i r).nearDelay sources e.delay :=
  nearDelay_of_placed hd rfl rfl

theorem realign_near (st : SourceStream) (gain : Word) (invert mute : Bool) (r : LiveRecord) :
    (realign sources[st.source] e.delay st gain invert mute r).nearDelay sources e.delay := by
  rw [realign_eq]
  exact nearDelay_of_placed hd rfl rfl

theorem start_near (hs : r.state ≠ .active) : (start sources e r).nearDelay sources e.delay := by
  unfold start
  split
  next => exact reseat_near hd _ _ _
  next =>
    split
    next => exact nearDelay_of_state hs
    next =>
      split
      · exact nearDelay_of_state (by simp [fillFaded])
      · exact nearDelay_of_state (by simp [fillUnfaded])

theorem driftTest_near_delay {st : SourceStream} (hst : r.current = some (.source st)) :
    (driftTest sources e st r).nearDelay sources e.delay := by
  unfold driftTest
  dsimp only
  split
  · exact lapReseat_near hd _ _
  split
  next hallowed => exact nearDelay_of_allowed hst hallowed
  next => exact realign_near hd _ _ _ _ _

theorem keepPosition_near {st : SourceStream} (hst : r.current = some (.source st)) :
    (keepPosition sources e st r).nearDelay sources e.delay := by
  unfold keepPosition
  dsimp only
  split
  · exact lapReseat_near hd _ _
  split
  next hallowed =>
    split
    · exact nearDelay_of_allowed hst hallowed
    · exact nearDelay_of_allowed rfl hallowed
  next => exact realign_near hd _ _ _ _ _

theorem revertOrDrift_near (a : Nat) (r : LiveRecord) : (revertOrDrift sources e a r).nearDelay sources e.delay := by
  unfold revertOrDrift
  split
  next => exact reseat_near hd _ _ _
  next =>
    split
    next hst => exact driftTest_near_delay hd (sourceStream_eq_some hst)
    next hnone =>
      intro _ st hst
      simp [LiveRecord.sourceStream, hst] at hnone

theorem failover_near (a : Nat) (r : LiveRecord) : (failover sources e a r).nearDelay sources e.delay := by
  unfold failover
  dsimp only
  split
  next => exact reseat_near hd _ _ _
  next => exact nearDelay_of_state (by simp [fillFaded])

theorem check_near (running : Bool) (r : LiveRecord) : (check sources e running r).nearDelay sources e.delay := by
  unfold check
  split
  next hs => exact nearDelay_of_state (by simp [hs])
  next hs =>
    split
    · exact start_near hd (by simp [hs])
    · exact nearDelay_of_state (by simp [hs])
  next hs => exact start_near hd (by simp [hs])
  next hs =>
    dsimp only
    split
    · exact revertOrDrift_near hd _ r
    · exact failover_near hd _ r

theorem enterFilling_near (hs : r.state = .filling) : (enterFilling sources e r).nearDelay sources e.delay := by
  unfold enterFilling
  split
  next => exact reseat_near hd _ _ _
  next =>
    split
    · exact nearDelay_of_state (by simp [hs])
    · exact nearDelay_of_state (by simp [hs])
    · exact nearDelay_of_state (by simp [fillFaded])

theorem enterActive_near (oldDelay : Nat) (r : LiveRecord) :
    (enterActive sources oldDelay e r).nearDelay sources e.delay := by
  unfold enterActive
  split
  next => exact nearDelay_of_state (by simp [fillFaded])
  next a i _ =>
    split
    next st hst =>
      split
      · exact keepPosition_near (r := { r with active := some a }) hd (sourceStream_eq_some hst)
      · exact reseat_near hd _ _ _
    next => exact reseat_near hd _ _ _

theorem enterEntry_near (oldDelay : Nat) (running : Bool) (r : LiveRecord) :
    (enterEntry sources oldDelay e running r).nearDelay sources e.delay := by
  by_cases he : e.enabled = true
  · have hstill (hs : r.state = .idle ∨ r.state = .parked) :
        (enterEntry sources oldDelay e running r).nearDelay sources e.delay := by
      rw [enterEntry_still he hs]
      split
      · exact start_near hd (by rcases hs with hs | hs <;> simp [hs])
      · exact nearDelay_of_state (by simp [park])
    cases hs : r.state with
    | idle => exact hstill (.inl hs)
    | parked => exact hstill (.inr hs)
    | filling =>
      rw [enterEntry_filling he hs]
      exact enterFilling_near hd hs
    | active =>
      rw [enterEntry_active he hs]
      exact enterActive_near hd oldDelay r
  · rw [Bool.not_eq_true] at he
    exact nearDelay_of_state (by simp [enterEntry_disabled_state he])

end

end

/-! ### The rows of a new entry (R71, R86 to R88) -/

section
variable (sources : Vector Source 192) {e : RouteEntry} {r : LiveRecord} {b : Nat} {c : SourceIx} {st : SourceStream}

theorem enterDisabled_fades (h : r.state = .active ∨ r.state = .filling) :
    enterDisabled r = { r.fadingTo (.fill .silence) with state := .idle, active := none } := by
  rcases h with hs | hs <;> simp only [enterDisabled, hs] <;> rfl

theorem enterDisabled_silent (h : r.state = .parked ∨ r.state = .idle) : enterDisabled r = idleSilent r := by
  rcases h with hs | hs <;> simp only [enterDisabled, hs]

theorem enterFilling_first (h : e.firstWith (fun c => usable e sources[c] = true) b c) (r : LiveRecord) :
    enterFilling sources e r = reseat sources e b c r := by
  simp only [enterFilling, mostPreferred_of_first h]

/-- A fill stream that holds, other than one of silence (R69). -/
def FillStream.holds : FillStream → Bool
  | .silence => false
  | .hold _ => true

theorem enterFilling_none (h : ∀ c ∈ e.candidates, ¬ usable e sources[c] = true) {x : FillStream}
    (hx : r.current = some (.fill x)) :
    enterFilling sources e r = if x.holds = decide (e.absenceFill = .hold) then r else fillFaded e r := by
  simp only [enterFilling, mostPreferred_of_none h, hx]
  cases x <;> cases e.absenceFill <;> rfl

theorem enterActive_none (h : ∀ c ∈ e.candidates, ¬ usable e sources[c] = true) (oldDelay : Nat) (r : LiveRecord) :
    enterActive sources oldDelay e r = fillFaded e r := by
  simp only [enterActive, mostPreferred_of_none h]

section
variable {oldDelay : Nat} (hf : e.firstWith (fun c => usable e sources[c] = true) b c)
  (hst : r.current = some (.source st))
include hf hst

theorem enterActive_moves (h : c ≠ st.source ∨ e.delay ≠ oldDelay) :
    enterActive sources oldDelay e r = reseat sources e b c r := by
  simp only [enterActive, mostPreferred_of_first hf, LiveRecord.sourceStream, hst]
  exact if_neg fun hsame => h.elim (fun hc => hc hsame.1.symm) fun hdelay => hdelay hsame.2

theorem enterActive_keeps (hc : c = st.source) (hdelay : e.delay = oldDelay) :
    enterActive sources oldDelay e r = keepPosition sources e st { r with active := some b } := by
  simp only [enterActive, mostPreferred_of_first hf, LiveRecord.sourceStream, hst]
  exact if_pos ⟨hc.symm, hdelay⟩

end

theorem keepPosition_lapped (h : 8191 < st.fillIn sources) (r : LiveRecord) :
    keepPosition sources e st r = lapReseat sources e st.source r :=
  if_pos h

theorem keepPosition_drifted (hlap : st.fillIn sources ≤ 8191)
    (hfar : st.fillIn sources + 64 < e.delay ∨ e.delay + 64 < st.fillIn sources) (r : LiveRecord) :
    keepPosition sources e st r = realign sources[st.source] e.delay st e.gain e.invert e.mute r := by
  refine (if_neg (Nat.not_lt.2 hlap)).trans (if_neg fun h => ?_)
  have hnear : e.delay ≤ st.fillIn sources + 64 ∧ st.fillIn sources ≤ e.delay + 64 := (driftAllowed_iff _ _).1 h
  omega

theorem keepPosition_allowed (hlap : st.fillIn sources ≤ 8191) (hlow : e.delay ≤ st.fillIn sources + 64)
    (hhigh : st.fillIn sources ≤ e.delay + 64) (r : LiveRecord) : keepPosition sources e st r =
      if e.gain = st.gain ∧ e.invert = st.invert ∧ e.mute = st.mute then r
      else r.fadingTo (makeStream st.source st.readCount e.gain e.invert e.mute) :=
  (if_neg (Nat.not_lt.2 hlap)).trans (if_pos ((driftAllowed_iff _ _).2 ⟨hlow, hhigh⟩))

end

/-- Settles O27: nearness by the ways a stream comes to be held; the rows by the entry, the state, and the selection. -/
theorem activeFillIsNearDelay : Obligations.ActiveFillIsNearDelay := by
  intro sources e running oldDelay r
  refine ⟨fun _ hd t ht hs st hst => ?_, ?_⟩
  · have hd : e.delay < 16777216 := by omega
    have hnear : t.nearDelay sources e.delay := by
      rcases ht with rfl | rfl
      · exact check_near hd running r
      · exact enterEntry_near hd oldDelay running r
    exact hnear hs st hst
  intro threshold good first noneGood fill faded silent reseated t
  have hgood (c : SourceIx) : good c ↔ usable e sources[c] = true := (usable_iff e _).symm
  have hfirst {b : Nat} {c : SourceIx} (h : first b c) : e.firstWith (fun c => usable e sources[c] = true) b c :=
    ⟨h.1, (hgood c).1 h.2.1, fun b' c' hlt hc' hu => h.2.2 b' c' hlt hc' ((hgood c').2 hu)⟩
  have hnone (h : noneGood) : ∀ c ∈ e.candidates, ¬ usable e sources[c] = true :=
    fun c hc hu => h c hc ((hgood c).2 hu)
  have hfaded : fillFaded e r = faded := fillFaded_eq e r
  refine ⟨fun he => ?_, fun he => ⟨fun hs => ?_, fun hs => ?_, fun hs => ?_⟩⟩
  · have ht : t = enterDisabled r := enterEntry_disabled he ..
    exact ⟨fun hs => ht.trans (enterDisabled_fades hs), fun hs => ht.trans (enterDisabled_silent hs)⟩
  · have ht : t = if running then start sources e r else park r := enterEntry_still he hs.symm ..
    have hne : r.state ≠ .filling := by rcases hs with hs | hs <;> simp [hs]
    refine ⟨fun hr => ht.trans (by rw [hr]; rfl), fun hr => ?_⟩
    have hstart : t = start sources e r := ht.trans (if_pos hr)
    refine ⟨fun b c hf => hstart.trans (start_first sources (hfirst hf) r), fun hn _ hfade => ?_, fun hn hfade => ?_⟩
    · rw [hstart, start_none sources (hnone hn) hne, if_pos hfade, hfaded]
    · rw [hstart, start_none sources (hnone hn) hne, if_neg (by omega), fillUnfaded_eq hfade]
  · have ht : t = enterFilling sources e r := enterEntry_filling he hs ..
    refine ⟨fun b c hf => ht.trans (enterFilling_first sources (hfirst hf) r), fun hn x hx => ?_⟩
    rw [ht, enterFilling_none sources (hnone hn) hx, hfaded]
    cases x <;> rfl
  · have ht : t = enterActive sources oldDelay e r := enterEntry_active he hs ..
    refine ⟨fun hn => (ht.trans (enterActive_none sources (hnone hn) oldDelay r)).trans hfaded, fun b c st hf hst =>
      ⟨fun hmove => ht.trans (enterActive_moves sources (hfirst hf) hst hmove), fun hc hdelay => ?_⟩⟩
    have hkeep : t = keepPosition sources e st { r with active := some b } :=
      ht.trans (enterActive_keeps sources (hfirst hf) hst hc hdelay)
    subst hc
    refine ⟨fun hlap => hkeep.trans (keepPosition_lapped sources hlap _), fun hlap hfar => ?_,
      fun hlap hlow hhigh => hkeep.trans (keepPosition_allowed sources hlap hlow hhigh _)⟩
    exact (hkeep.trans (keepPosition_drifted sources hlap hfar _)).trans (realign_eq sources e.delay st ..)

end Sys2Proof.Machine
end

section
/-! Stall and resume of a port's transmit side (R84, R131, R132): O39. -/

namespace Sys2Proof.Machine

section
variable {p : PortIx} {s : State}

theorem stallPort_of_not_running (h : (s.ports[p]).transmit ≠ .running) : stallPort p s = s := by
  unfold stallPort
  split
  next hr => exact absurd hr h
  next => rfl

theorem stallPort_of_running (h : (s.ports[p]).transmit = .running) :
    stallPort p s = (haltTransmit p .stalled s).modifyPort p fun x => { x with stallTimer := 48000 } := by
  simp only [stallPort, h]

theorem stallPort_ports (h : (s.ports[p]).transmit = .running) : (stallPort p s).ports = modifyAt s.ports p fun x =>
    { x with transmit := .stalled, running := Vector.replicate 4 false, stallTimer := 48000 } := by
  rw [stallPort_of_running h, State.modifyPort_ports, haltTransmit_ports, modifyAt_modifyAt]

theorem stallPort_dests (h : (s.ports[p]).transmit = .running) (d : DestIx) :
    (stallPort p s).dests[d] = if trackPlace d = .port p then stopRecord s.dests[d] else s.dests[d] := by
  rw [stallPort_of_running h]
  exact haltTransmit_dests s p .stalled d

theorem giveWord_nil {x : Port} (h : x.outFifo = []) : giveWord x = x := by
  simp only [giveWord, h]

theorem giveWord_cons {x : Port} {w : PortWord} {rest : List PortWord} (h : x.outFifo = w :: rest) :
    giveWord x =
      let resumes := decide (x.transmit = .stalled ∧ rest.length ≤ 1024)
      { x with
        outFifo := rest
        linkOut := some w
        stallTimer := if resumes ∨ 2048 ≤ x.outFifo.length then 0 else x.stallTimer
        transmit := if resumes then .running else x.transmit } := by
  simp only [giveWord, h, Bool.decide_and, Bool.or_eq_true, decide_eq_true_eq]

/-- Settles O39: a stall halts transmit, and a word taken changes the port alone. -/
theorem stallStopsAndWordsResume : Obligations.StallStopsAndWordsResume := by
  intro p s hreset x
  have hstall : exec (.transmitStall p) s = .next (stallPort p s) := powered_on hreset _
  have hword : exec (.outFifoWordTaken p) s = .next (s.putPort p (giveWord x)) :=
    powered_on hreset fun s => s.modifyPort p giveWord
  refine ⟨fun hr => ?_, fun hr => ⟨stallPort p s, hstall, ?_, stallPort_ports hr, fun d => ?_⟩, fun hempty => ?_,
    fun w rest hfifo => ?_⟩
  · rw [hstall, stallPort_of_not_running hr]
  · rw [stallPort_of_running hr]
    rfl
  · have hdest := stallPort_dests hr d
    split
    next hd =>
      rw [hdest, if_pos ((trackPlace_eq_port_iff d p).2 hd)]
      exact stopRecord_stoppedFrom _
    next hd => rw [hdest, if_neg (hd ∘ (trackPlace_eq_port_iff d p).1)]
  · rw [hword, giveWord_nil hempty, State.putPort_self]
  · rw [hword, giveWord_cons hfifo]

end

end Sys2Proof.Machine
end

section
/-! The reads at the start of a line's build (R79, R105, R107, R108): O25. -/

namespace Sys2Proof.Machine

/-! ### What a group's reads gain (R79, R108) -/

section
variable (s : State) (n : LaneIx) (g : GroupIx) (count : Nat)

theorem readInstants_length : (readInstants s n g count).length = count := by
  simp [readInstants]

/-- Track by track, the instants gained are the reads of the track's destination in time order. -/
theorem readInstants_track (t : Fin 4) : (readInstants s n g count).map (fun x => x[t]) =
    (readMany s.sources s.entries[laneTrack n g t] count s.dests[laneTrack n g t]).2 := by
  refine List.ext_getElem (by rw [List.length_map, readInstants_length, readMany_length]) fun i _ hi => ?_
  simp only [readInstants, List.map_map, List.getElem_map, List.getElem_range, Function.comp_apply, four_getElem,
    List.getD_eq_getElem _ _ hi]

/-- What a group gains at the reads of a line: an instant for each read while it reads (R108). -/
def groupGains : List Instant :=
  if groupReads s.lanes[n] g then readInstants s n g count else []

theorem lineReads_queue : ((lineReads n count s).lanes[n]).queues[g] =
    gainInstants (s.lanes[n]).queues[g] (groupGains s n g count) := by
  simp only [lineReads, State.modifyLane_lanes, State.updateDests_lanes, modifyAt_getElem_self, updateAll_getElem_fin,
    groupGains]

theorem lineReads_overrun : ((lineReads n count s).lanes[n]).counters.overrun[g] =
    raise (s.lanes[n]).counters.overrun[g] (overrunOf (s.lanes[n]).queues[g] (groupGains s n g count)) := by
  simp only [lineReads, State.modifyLane_lanes, State.updateDests_lanes, modifyAt_getElem_self, updateAll_getElem_fin,
    groupGains]

theorem lineReads_dests (d : DestIx) : (lineReads n count s).dests[d] =
    if trackPlace d = .lane n ∧ groupReads s.lanes[n] (trackGroup d) = true then
      (readMany s.sources s.entries[d] count s.dests[d]).1
    else s.dests[d] := by
  simp only [lineReads, State.modifyLane_dests, State.updateDests_dests, updateAll_getElem_fin, Bool.and_eq_true,
    decide_eq_true_eq]

theorem gainInstants_length (queue gained : List Instant) :
    (gainInstants queue gained).length = min 8 (queue.length + gained.length) := by
  rw [gainInstants, overrunOf, List.length_drop, List.length_append]
  omega

theorem gainInstants_nil {queue : List Instant} (h : queue.length ≤ 8) : gainInstants queue [] = queue := by
  rw [gainInstants, overrunOf, List.length_nil, Nat.add_zero, Nat.sub_eq_zero_of_le h, List.append_nil, List.drop_zero]

/-- A group's destination reads exactly where its group does (R79, R105). -/
theorem lineReads_dest_of_group {d : DestIx} (h : d.val / 4 = 4 * n.val + g.val) : (lineReads n count s).dests[d] =
    if groupReads s.lanes[n] g then (readMany s.sources s.entries[d] count s.dests[d]).1 else s.dests[d] := by
  have hplace : trackPlace d = .lane n := (trackPlace_eq_lane_iff d n).2 (by omega)
  rw [lineReads_dests, trackGroup_eq h]
  simp only [hplace, true_and]

end

/-! ### What a build takes off the queues (R111) -/

theorem turnGrant_le_four (plan : LanePlan) (g : GroupIx) (depth room : Nat) : turnGrant plan g depth room ≤ 4 := by
  unfold turnGrant grant
  split
  · exact (min_le_right ..).trans (min_le_left ..)
  · exact Nat.zero_le _

theorem grantedTo_roundGrants_le_four (plan : LanePlan) (depth : GroupIx → Nat) (gs : List GroupIx) (room : Nat)
    (g : GroupIx) : grantedTo (roundGrants plan depth gs room) g ≤ 4 := by
  induction gs generalizing room with
  | nil => exact Nat.zero_le _
  | cons h rest ih =>
    rw [roundGrants_cons, grantedTo_cons]
    split
    · exact turnGrant_le_four ..
    · exact ih _

/-- A build takes at most 4 instants off the front of each queue. -/
theorem placeLine_queue (n : LaneIx) (a : AwaitingBuild) (u : State) (g : GroupIx) :
    ∃ m ≤ 4, ((placeLine n a u).lanes[n]).queues[g] = ((u.lanes[n]).queues[g]).drop m := by
  obtain ⟨words, hmark⟩ := placeMark_holds_some (budgetInForce u.lanes[n]) u.ref n a.line
  have hdrop : (placedGroups n a u).1[g] = _ :=
    (placeGroups_holds (roundOrder_nodup _) _ _ _ hmark _ fun _ _ => rfl).2 g
  exact ⟨_, grantedTo_roundGrants_le_four .., (congrArg (·.queues[g]) (placeLine_lane n a u)).trans hdrop⟩

theorem placeLine_overrun (n : LaneIx) (a : AwaitingBuild) (u : State) :
    ((placeLine n a u).lanes[n]).counters.overrun = (u.lanes[n]).counters.overrun := by
  rw [placeLine_lane]
  rfl

/-- Settles O25: by whether the group reads; the build places the line that its reads leave. -/
theorem lineReadsFillQueues : Obligations.LineReadsFillQueues := by
  intro n g count s l t reads
  have hqueue := lineReads_queue s n g count
  have hoverrun := lineReads_overrun s n g count
  refine ⟨?_, fun d hd => ?_, fun f a hb hcount => ?_⟩
  · split
    next hreads =>
      have hgains : groupGains s n g count = readInstants s n g count := if_pos hreads
      have hlen := readInstants_length s n g count
      rw [hgains] at hqueue hoverrun
      rw [overrunOf, hlen] at hoverrun
      refine ⟨?_, hoverrun, readInstants s n g count, hlen, ?_, fun track d hd => ⟨?_, ?_⟩⟩
      · rw [hqueue, gainInstants_length, hlen]
      · rw [hqueue, gainInstants, overrunOf, hlen]
      · obtain rfl : d = laneTrack n g track := Fin.ext hd
        exact readInstants_track s n g count track
      · exact (lineReads_dest_of_group s n g count (by omega)).trans (if_pos hreads)
    next hreads =>
      have hgains : groupGains s n g count = [] := if_neg hreads
      refine ⟨fun h => ?_, fun d hd => (lineReads_dest_of_group s n g count hd).trans (if_neg hreads)⟩
      rw [hqueue, hgains, gainInstants_nil h]
  · rw [lineReads_dests, if_neg fun h => hd ((trackPlace_eq_lane_iff d n).1 h.1)]
  · obtain ⟨m, hm, hdrop⟩ := placeLine_queue n a t g
    have hlanes : (laneSamples n count (placeLine n a t)).lanes = (placeLine n a t).lanes := laneSamples_lanes ..
    refine ⟨laneSamples n count (placeLine n a t), ?_, rfl, ?_, m, hm, ?_⟩
    · subst hcount
      exact exec_outputLineBuild_builds hb
    · rw [hlanes, placeLine_overrun]
    · rw [hlanes, hdrop]

end Sys2Proof.Machine
end

section
/-! Port frames, with and without a take pending on the port (R73, R84, R129, R130, R136, R157, R159): O19. -/

namespace Sys2Proof.Machine

/-! ### Destinations of a port and their channels (R84, R149) -/

theorem trackScope_eq_portScope_iff (d : Fin 192) (p : PortIx) : trackScope d = portScope p ↔ d.val / 32 = 4 + p.val := by
  rw [← trackPlace_eq_port_iff]
  refine ⟨trackPlace_eq_port_of_scope, fun h => ?_⟩
  simp only [trackScope, h]

theorem trackScope_of_channel {d : DestIx} {p : PortIx} {c : ChanIx} (h : d.val / 8 = 16 + 4 * p.val + c.val) :
    trackScope d = portScope p := by
  rw [trackScope_eq_portScope_iff]
  omega

theorem outputRuns_of_channel {d : DestIx} {p : PortIx} {c : ChanIx} (h : d.val / 8 = 16 + 4 * p.val + c.val)
    (t : State) : outputRuns t d = (t.ports[p]).running[c] := by
  obtain ⟨hplace, hchan⟩ := (trackChannel_iff d p c).2 h
  rw [outputRuns_port hplace]
  simp only [hchan]

theorem scopePlan_portScope (s : State) (p : PortIx) : scopePlan s (portScope p) = .port (s.ports[p]).plan := by
  simp only [scopePlan, ifacePlace_portScope]

/-! ### The samples of a port's clock (R5, R129, R136) -/

section
variable (k : Nat) (x : Port)

theorem clockSamples_plan : (clockSamples k x).plan = x.plan := by
  rw [clockSamples_frame]

theorem clockSamples_counters : (clockSamples k x).counters = x.counters := by
  rw [clockSamples_frame]

theorem advanceBy_withRunning (running : Vector Bool 4) :
    advanceBy k { x with running := running } = { advanceBy k x with running := running } := by
  induction k generalizing x with
  | zero => rfl
  | succ k ih =>
    simp only [advanceBy]
    by_cases h : (advancePort x).position = 0
    · rw [if_pos h, if_pos (show (advancePort { x with running := running }).position = 0 from h)]
      rfl
    · rw [if_neg h, if_neg (show ¬ (advancePort { x with running := running }).position = 0 from h)]
      exact ih (advancePort x)

/-- Which channels run plays no part in the samples of the clock. -/
theorem clockSamples_withRunning (running : Vector Bool 4) :
    clockSamples k { x with running := running } = { clockSamples k x with running := running } :=
  advanceBy_withRunning (x.heldSamples + k) { x with heldSamples := 0 } running

end

section
variable {x : Port}

theorem clockSamples_zero_of_none (h : x.heldSamples = 0) : clockSamples 0 x = x := by
  obtain ⟨⟩ := x
  cases h
  rfl

theorem clockSamples_zero_of_one (h : x.heldSamples = 1) :
    clockSamples 0 x = { advancePort { x with heldSamples := 0 } with heldSamples := 0 } := by
  rw [clockSamples, h]
  simp only [advanceBy]
  split <;> rfl

theorem clockSamples_zero_position (hpos : x.position = 0) (h : x.heldSamples = 1) : (clockSamples 0 x).position = 1 := by
  rw [clockSamples_zero_of_one h]
  simp only [advancePort, hpos]

/-- No sample is held once the one held behind a port frame has fallen (log entry 32). -/
theorem clockSamples_zero_falls (h : x.heldSamples ≤ 1) : (clockSamples 0 x).heldSamples = 0 := by
  rcases Nat.le_one_iff_eq_zero_or_eq_one.1 h with h0 | h1
  · rw [clockSamples_zero_of_none h0, h0]
  · rw [clockSamples_zero_of_one h1]

end

/-! ### The port that an application leaves (R130, R136) -/

/-- Whether a plan's clock source is there to be used: a LOCKED lane, or the station clock (R130). -/
def clockHeld (s : State) : Clock → Bool
  | .lane m => decide ((s.lanes[m]).inputState = .locked)
  | .station => true

theorem clockUnder_eq (s : State) (source : Clock) :
    clockUnder s source = if clockHeld s source then source else .station := by
  cases source with
  | station => rfl
  | lane m => simp only [clockUnder, clockHeld, decide_eq_true_eq]

theorem isFallback_eq (s : State) (inUse source : Clock) :
    bitNat (isFallback s inUse source) = if (!clockHeld s source) = true ∧ inUse ≠ .station then 1 else 0 := by
  cases source with
  | station => simp [isFallback, clockHeld, bitNat]
  | lane m =>
    by_cases hlock : (s.lanes[m]).inputState = .locked
    · simp [-Fin.getElem_fin, isFallback, clockUnder, clockHeld, hlock, bitNat]
    · by_cases huse : inUse = .station <;>
        simp [-Fin.getElem_fin, isFallback, clockUnder, clockHeld, hlock, huse, bitNat]

section
variable (s : State) (plan : Option ScopePlan) (x : Port)

theorem plannedPort_plan : (plannedPort s plan x).plan = (match plan with
    | some (.port new) => new
    | _ => x.plan) := by
  rcases plan with _ | _ | _ <;> rfl

theorem plannedPort_transmit : (plannedPort s plan x).transmit = x.transmit := by
  unfold plannedPort; split <;> rfl

theorem plannedPort_of_none {plan : Option ScopePlan} (h : ∀ new : PortPlan, plan ≠ some (.port new)) :
    plannedPort s plan x = x := by
  unfold plannedPort
  split
  next new => exact absurd rfl (h new)
  next => rfl

theorem settledPort_running (c : ChanIx) :
    (settledPort x).running[c] = (decide (x.transmit = .running) && x.plan.channels[c]) := by
  simp only [settledPort, four_getElem]

/-- An application changes a port's plan, its clock with the fallback counter, its held samples where the clock changes, and
its running channels. -/
theorem appliedPort_eq : settledPort (plannedPort s plan x) = { x with
    plan := (plannedPort s plan x).plan
    clock := (plannedPort s plan x).clock
    running := (settledPort (plannedPort s plan x)).running
    counters := { x.counters with fallbacks := (plannedPort s plan x).counters.fallbacks }
    heldSamples := if (plannedPort s plan x).clock = x.clock then x.heldSamples else 0 } := by
  unfold plannedPort
  split
  · rfl
  · rw [if_pos rfl]
    rfl

end

/-! ### The port after a frame that applies a take (R129, R130, R136) -/

/-- A port after a frame that puts a take's plan in place: its channels settled, and then its clock's held sample. -/
def framedPort (s : State) (plan : Option ScopePlan) (x : Port) : Port :=
  clockSamples 0 (settledPort (plannedPort s plan { x with frameDue := false }))

section
variable (s : State) (plan : Option ScopePlan) (x : Port)

theorem framedPort_plan : (framedPort s plan x).plan = (match plan with
    | some (.port new) => new
    | _ => x.plan) :=
  (clockSamples_plan 0 _).trans (plannedPort_plan s plan { x with frameDue := false })

theorem framedPort_clock :
    (framedPort s plan x).clock = (plannedPort s plan { x with frameDue := false }).clock :=
  clockSamples_clock 0 _

theorem framedPort_running :
    (framedPort s plan x).running = (settledPort (plannedPort s plan { x with frameDue := false })).running :=
  clockSamples_running 0 _

theorem framedPort_channel (c : ChanIx) : (framedPort s plan x).running[c] =
    (decide (x.transmit = .running) && (framedPort s plan x).plan.channels[c]) := by
  have hplan : (framedPort s plan x).plan = (plannedPort s plan { x with frameDue := false }).plan := clockSamples_plan 0 _
  rw [framedPort_running, settledPort_running, plannedPort_transmit, hplan]

theorem framedPort_counters :
    (framedPort s plan x).counters = (plannedPort s plan { x with frameDue := false }).counters :=
  clockSamples_counters 0 _

/-- What the samples of the clock start from: a held sample stands only where the clock is the one it was. -/
theorem framedPort_eq : framedPort s plan x = clockSamples 0 { x with
    frameDue := false
    plan := (framedPort s plan x).plan
    clock := (framedPort s plan x).clock
    running := (framedPort s plan x).running
    counters := { x.counters with fallbacks := (framedPort s plan x).counters.fallbacks }
    heldSamples := if (framedPort s plan x).clock = x.clock then x.heldSamples else 0 } := by
  have hplan : (framedPort s plan x).plan = (plannedPort s plan { x with frameDue := false }).plan := clockSamples_plan 0 _
  rw [hplan, framedPort_clock, framedPort_running, framedPort_counters]
  exact congrArg (clockSamples 0) (appliedPort_eq s plan { x with frameDue := false })

/-- A plan with a clock source takes it up where it is there to be used, else the station clock (R130). -/
theorem framedPort_takesClock (new : PortPlan) :
    (framedPort s (some (.port new)) x).clock = (if clockHeld s new.clock then new.clock else .station)
      ∧ (framedPort s (some (.port new)) x).counters.fallbacks =
        raise x.counters.fallbacks (if (!clockHeld s new.clock) = true ∧ x.clock ≠ .station then 1 else 0) := by
  rw [framedPort_clock, framedPort_counters, ← clockUnder_eq, ← isFallback_eq]
  exact ⟨rfl, rfl⟩

theorem framedPort_keepsClock {plan : Option ScopePlan} (h : ∀ new : PortPlan, plan ≠ some (.port new)) :
    (framedPort s plan x).clock = x.clock ∧ (framedPort s plan x).counters.fallbacks = x.counters.fallbacks := by
  rw [framedPort_clock, framedPort_counters, plannedPort_of_none s _ h]
  exact ⟨rfl, rfl⟩

section
variable {x}

theorem framedPort_position_of_none (h : x.heldSamples = 0) : (framedPort s plan x).position = x.position := by
  rw [framedPort_eq, clockSamples_zero_of_none]
  dsimp only
  rw [h, ite_self]

/-- A sample held behind the frame falls with it, unless the frame has changed the clock (log entry 32). -/
theorem framedPort_position_of_one (h : x.heldSamples = 1) (hpos : x.position = 0) :
    (framedPort s plan x).position = if (framedPort s plan x).clock = x.clock then 1 else 0 := by
  rw [framedPort_eq, clockSamples_clock]
  split
  · exact clockSamples_zero_position hpos h
  · rw [clockSamples_zero_of_none rfl]
    exact hpos

theorem framedPort_held (h : x.heldSamples ≤ 1) : (framedPort s plan x).heldSamples = 0 := by
  rw [framedPort_eq]
  refine clockSamples_zero_falls ?_
  dsimp only
  split
  · exact h
  · exact Nat.zero_le 1

end

end

/-! ### A port frame in its parts (R129) -/

section
variable (p : PortIx) (s : State)

/-- A state whose port frame has been taken up. -/
def State.frameTaken : State :=
  s.modifyPort p fun x => { x with frameDue := false }

theorem exec_portFrame {s : State} (hs : s.resetHeld = false) : exec (.portFrame p) s =
    .next ((boundary (portScope p) id (s.frameTaken p)).modifyPort p (clockSamples 0)) :=
  powered_on hs (portFrame p)

theorem frameTaken_port : (s.frameTaken p).ports[p] = { s.ports[p] with frameDue := false } :=
  modifyAt_getElem_self ..

theorem frameTaken_outputRuns (d : DestIx) : outputRuns (s.frameTaken p) d = outputRuns s d :=
  outputRuns_congr_running (t := s.frameTaken p) (s := s) (fun _ => rfl)
    (fun _ => modifyAt_proj Port.running (fun _ => by rfl) _ _ _) d

theorem clocked_outputRuns (k : Nat) (d : DestIx) : outputRuns (s.modifyPort p (clockSamples k)) d = outputRuns s d :=
  outputRuns_congr_running (t := s.modifyPort p (clockSamples k)) (s := s) (fun _ => rfl)
    (fun _ => modifyAt_proj Port.running (fun x => clockSamples_running k x) _ _ _) d

end

/-! ### A port frame without a take (R73, R84, R129) -/

section
variable {p : PortIx} {s : State} (hk : ∀ k ∈ s.take, k.state = .pending → k.scope.val ≠ 8 + p.val)
include hk

theorem boundary_portFrame_settles : boundary (portScope p) id (s.frameTaken p) =
    checkScope (portScope p) (fun _ => false) (settlePort p (s.frameTaken p)) := by
  have hnone : pendingOn (s.frameTaken p) (portScope p) = none := by
    refine pendingOn_eq_none fun k hkt hp => ?_
    rw [ne_eq, eq_portScope_iff]
    exact hk k hkt hp
  rw [boundary_none hnone, settleScope_portScope]
  rfl

omit hk

variable (p s) in
theorem settledFrame_ports : ((settlePort p (s.frameTaken p)).modifyPort p (clockSamples 0)).ports =
    s.ports.set p.val (clockSamples 0 (settledPort { s.ports[p] with frameDue := false })) p.isLt := by
  rw [settlePort_eq, State.modifyPort_ports, modifyAt_modifyAt, State.frameTaken, State.modifyPort_ports,
    modifyAt_modifyAt, modifyAt_eq_set]

end

/-! ### A port frame with a take pending on the port (R157 to R160) -/

section
variable {p : PortIx} {s : State} {k : Take} (hk : s.take = some k) (hp : k.state = .pending) (hsc : k.scope = portScope p)
include hk hp hsc

theorem boundary_portFrame_applies : boundary (portScope p) id (s.frameTaken p) =
    checkScope (portScope p) (fun d => (latchedEntry k.latches d).isSome) (applyTake none k (s.frameTaken p)) := by
  have hsome : pendingOn (s.frameTaken p) (portScope p) = some k := hsc ▸ pendingOn_eq_some hk hp
  rw [boundary_some hsome]
  rfl

omit hk hp

/-- The ports after a frame that applies a take: the port with its plan and channels, and the held sample of its clock. -/
theorem appliedFrame_ports : ((applyTake none k (s.frameTaken p)).modifyPort p (clockSamples 0)).ports =
    s.ports.set p.val (framedPort s k.plan s.ports[p]) p.isLt := by
  rw [State.modifyPort_ports, applyTake_ports_of_port hsc, modifyAt_modifyAt, State.frameTaken, State.modifyPort_ports,
    modifyAt_modifyAt, modifyAt_eq_set]
  rfl

/-- What the application at a port frame takes is what the statements say of the state before the frame (R158 to R160). -/
theorem frameTaken_tookTake : s.tookTake (applyTake none k (s.frameTaken p)) k (.port (s.ports[p]).plan) := by
  obtain ⟨htake, hentries, hundo, -, -, hrest⟩ := applyTake_tookTake k (s.frameTaken p)
  obtain ⟨hreplies, hdropped⟩ := applyTake_replies (lost := none) (t := k) (s := s.frameTaken p) (b := s)
    (by simp only [reduceCtorEq, or_false]; rfl) rfl rfl rfl rfl
  rw [hsc, scopePlan_portScope, frameTaken_port] at hundo
  exact ⟨htake, hentries, hsc ▸ hundo, hreplies, hdropped, hrest⟩

omit hsc in
theorem frameTaken_latchedActed (hcons : s.outputsConsistent) :
    (applyTake none k (s.frameTaken p)).latchedActed k :=
  applyTake_latchedActed none k (s.frameTaken p) fun d _ hr => by
    obtain ⟨hactive, hfilling, -⟩ := still_of_outputsConsistent hcons ((frameTaken_outputRuns p s d).symm.trans hr)
    exact ⟨hactive, hfilling⟩

end

/-- Settles O19: the boundary without and with a take, then the held sample of the clock. -/
theorem portFrameSettlesPort : Obligations.PortFrameSettlesPort := by
  intro p s hs
  refine ⟨fun hk => ?_, fun k hk hp hscv hcons => ?_⟩
  · let u := settlePort p (s.frameTaken p)
    let t := (checkScope (portScope p) (fun _ => false) u).modifyPort p (clockSamples 0)
    have hframe : exec (.portFrame p) s = .next t := by rw [exec_portFrame p hs, boundary_portFrame_settles hk]
    have hports : t.ports = s.ports.set p.val
        (clockSamples 0 (settledPort { s.ports[p] with frameDue := false })) p.isLt := settledFrame_ports p s
    have hport : t.ports[p] = clockSamples 0 (settledPort { s.ports[p] with frameDue := false }) := by
      simp only [hports, Fin.getElem_fin, Vector.getElem_set_self]
    have hrunning : (t.ports[p]).running = (settledPort s.ports[p]).running := by
      rw [hport, clockSamples_running]
      rfl
    have hruns (d : DestIx) : outputRuns t d = outputRuns u d := clocked_outputRuns p _ 0 d
    have hdest (d : DestIx) : u.dests[d] = settledRecord (portScope p) u d s.dests[d] := by
      have hsettled := settleScope_dests (portScope p) (s.frameTaken p) d
      rwa [settleScope_portScope] at hsettled
    refine ⟨t, hframe, rfl, ?_, fun c => ?_, fun d hd => ?_, fun c d hd => ?_⟩
    · rw [hrunning, hports]
      exact congrArg (s.ports.set p.val · p.isLt) (clockSamples_withRunning 0 _ _)
    · rw [hrunning, settledPort_running]
    · have hout : trackScope d ≠ portScope p := by rwa [ne_eq, trackScope_eq_portScope_iff]
      exact (checkScope_dests_out (.inl hout) u).trans ((hdest d).trans (settledRecord_of_ne hout u _))
    · have hin := trackScope_of_channel hd
      have hcheck : t.dests[d] = check s.sources s.entries[d] (outputRuns u d) u.dests[d] :=
        checkScope_dests_in hin rfl u
      rw [← outputRuns_of_channel hd, hruns, hcheck, hdest]
      exact check_settledRecord hin ..
  · have hsc : k.scope = portScope p := (eq_portScope_iff _ _).2 hscv
    let skip (d : DestIx) := (latchedEntry k.latches d).isSome
    let u := applyTake none k (s.frameTaken p)
    let t := (checkScope (portScope p) skip u).modifyPort p (clockSamples 0)
    have hframe : exec (.portFrame p) s = .next t := by rw [exec_portFrame p hs, boundary_portFrame_applies hk hp hsc]
    have hports : t.ports = s.ports.set p.val (framedPort s k.plan s.ports[p]) p.isLt := appliedFrame_ports hsc
    have hport : t.ports[p] = framedPort s k.plan s.ports[p] := by
      simp only [hports, Fin.getElem_fin, Vector.getElem_set_self]
    have hruns (d : DestIx) : outputRuns t d = outputRuns u d := clocked_outputRuns p _ 0 d
    have hlatched (d : DestIx) (hd : ∃ c ∈ k.latches, c.1 = d) : t.dests[d] = u.dests[d] := by
      obtain ⟨e, he⟩ := latchedEntry_of_mem hd
      exact checkScope_dests_out (.inr (by simp only [skip, he, Option.isSome_some])) u
    refine ⟨t, hframe, frameTaken_tookTake hsc, applyTake_lanes_of_port hsc .., hport ▸ framedPort_plan .., fun c => ?_,
      fun new hnew => ?_, fun hsame => ?_, applyTake_ref .., ?_, fun h0 => ?_, fun h1 hpos => ?_, fun hle => ?_,
      fun q hq => ?_, ?_, ?_, fun d hd => ⟨fun hne => ?_, fun c hc => ?_⟩⟩
    · rw [hport]
      exact framedPort_channel ..
    · intro held
      have hheld : held = clockHeld s new.clock := by
        simp only [held]
        cases new.clock <;> rfl
      rw [hport, hheld, hnew]
      exact framedPort_takesClock ..
    · rw [hport]
      exact framedPort_keepsClock s _ hsame
    · rw [hport, hports]
      exact congrArg (s.ports.set p.val · p.isLt) (framedPort_eq ..)
    · rw [hport, framedPort_position_of_none s _ h0]
    · rw [hport, framedPort_position_of_one s _ h1 hpos]
    · rw [hport, framedPort_held s _ hle]
    · have hne : p.val ≠ q.val := fun e => hq (Fin.ext e.symm)
      simp only [hports, Fin.getElem_fin, Vector.getElem_set_ne _ _ hne]
    · exact latchedActed_congr (t := u) rfl hruns hlatched (frameTaken_latchedActed hcons)
    · exact latchedEntered_congr (t := u) rfl rfl hruns hlatched (applyTake_latchedEntered none k (s.frameTaken p))
    · have hout : trackScope d ≠ portScope p := by rwa [ne_eq, trackScope_eq_portScope_iff]
      exact (checkScope_dests_out (.inl hout) u).trans ((applyTake_dests_unlatched _ _ _
        ((latchedEntry_eq_none_iff _ _).2 hd)).trans (settledRecord_of_ne (hsc ▸ hout) _ _))
    · have hin := trackScope_of_channel hc
      have hnone : latchedEntry k.latches d = none := (latchedEntry_eq_none_iff _ _).2 hd
      have hentry : u.entries[d] = s.entries[d] := by
        rw [applyTake_entries, hnone]
        rfl
      have hcheck : t.dests[d] = check u.sources u.entries[d] (outputRuns u d) u.dests[d] :=
        checkScope_dests_in hin (by simp only [skip, hnone, Option.isSome_none]) u
      rw [← outputRuns_of_channel hc, hruns, hcheck, hentry, applyTake_sources,
        applyTake_dests_unlatched none k (s.frameTaken p) hnone]
      exact check_settledRecord (hsc ▸ hin) ..

end Sys2Proof.Machine
end

section
/-! Polarity, gain and crossfade as exact integer arithmetic (R93, R94, R96): O29. -/

namespace Sys2Proof.Machine

/-! ### Polarity (R93) -/

@[simp] theorem polarity_false (x : Sample) : polarity false x = x := rfl

/-- The one sample without a negative in range saturates; every other is negated exactly. -/
theorem polarity_true_toInt (x : Sample) :
    (polarity true x).toInt = if x.toInt = -8388608 then 8388607 else -x.toInt := by
  have hmin : x = 0x800000#24 ↔ x.toInt = -8388608 := BitVec.toInt_inj.symm
  rw [polarity, if_pos rfl]
  split
  next h =>
    rw [if_pos (hmin.1 h)]
    rfl
  next h => rw [if_neg (mt hmin.2 h), BitVec.toInt_neg_of_ne_intMin h]

/-! ### Gain (R94) -/

theorem saturate_toInt (r : Int) : (saturate r).toInt = max (-8388608) (min 8388607 r) := by
  unfold saturate
  split
  next h =>
    rw [min_eq_left h.le]
    rfl
  next hhigh =>
    split
    next h =>
      rw [min_eq_right (by omega), max_eq_left h.le]
      rfl
    next hlow => rw [min_eq_right (by omega), max_eq_right (by omega), BitVec.toInt_ofInt_eq_self] <;> omega

theorem saturate_toInt_self (x : Sample) : saturate x.toInt = x := by
  have hlow : -8388608 ≤ x.toInt := BitVec.le_toInt x
  have hhigh : x.toInt < 8388608 := BitVec.toInt_lt
  refine BitVec.eq_of_toInt_eq ?_
  rw [saturate_toInt]
  omega

/-- Unity gain is 16384: the rounding half never reaches the next sample. -/
theorem applyGain_unity (x : Sample) : applyGain 16384 x = x := by
  have hexact : (x.toInt * ((16384 : Word).toNat : Int) + 8192) / 16384 = x.toInt := by
    have hunity : ((16384 : Word).toNat : Int) = 16384 := rfl
    rw [hunity]
    omega
  rw [applyGain, hexact, saturate_toInt_self]

theorem applyGain_zero (x : Sample) : applyGain 0 x = 0 := by
  have hzero : (x.toInt * ((0 : Word).toNat : Int) + 8192) / 16384 = 0 := by
    have hgain : ((0 : Word).toNat : Int) = 0 := rfl
    rw [hgain, mul_zero]
    rfl
  rw [applyGain, hzero]
  rfl

/-! ### Crossfade (R96) -/

/-- The weights sum to 32, so the mix lies between 32 times the smaller and 32 times the larger sample. -/
theorem blend_between {k : Nat} (hk : k ≤ 32) (old new : Sample) :
    min old.toInt new.toInt ≤ (blend k old new).toInt ∧ (blend k old new).toInt ≤ max old.toInt new.toInt := by
  have hold : (0 : Int) ≤ 32 - k := by omega
  have hnew : (0 : Int) ≤ k := Int.natCast_nonneg k
  have hweights (a : Int) : a * (32 - k) + a * k = 32 * a := by ring
  have hlow : 32 * min old.toInt new.toInt ≤ old.toInt * (32 - k) + new.toInt * k :=
    hweights _ ▸ add_le_add (mul_le_mul_of_nonneg_right (min_le_left ..) hold)
      (mul_le_mul_of_nonneg_right (min_le_right ..) hnew)
  have hhigh : old.toInt * (32 - k) + new.toInt * k ≤ 32 * max old.toInt new.toInt :=
    hweights _ ▸ add_le_add (mul_le_mul_of_nonneg_right (le_max_left ..) hold)
      (mul_le_mul_of_nonneg_right (le_max_right ..) hnew)
  rw [blend_toInt hk]
  constructor <;> omega

/-- Settles O29: polarity by its one saturated sample, gain by saturation, the blend by its weights. -/
theorem arithmeticIsExact : Obligations.ArithmeticIsExact := by
  unfold Obligations.ArithmeticIsExact
  refine ⟨fun x => ⟨polarity_false x, polarity_true_toInt x⟩, fun g x => saturate_toInt _,
    fun x => ⟨applyGain_unity x, applyGain_zero x⟩, fun k old new hk => ?_⟩
  obtain ⟨hlow, hhigh⟩ := blend_between hk.le old new
  exact ⟨blend_toInt hk.le old new, hlow, hhigh, blend_zero old new⟩

end Sys2Proof.Machine
end

section
/-! Compact coding and expansion (R100, R102): O30. -/

namespace Sys2Proof.Machine

/-! ### The four segments of the code (R100) -/

theorem compactCode_segment0 {m : Nat} (h : m ≤ 511) : compactCode m = m := if_pos h

theorem compactCode_segment1 {m : Nat} (hlow : 512 ≤ m) (hhigh : m ≤ 2047) : compactCode m = 512 + (m - 512) / 4 := by
  rw [compactCode, if_neg (by omega), if_pos hhigh]

theorem compactCode_segment2 {m : Nat} (hlow : 2048 ≤ m) (hhigh : m ≤ 8191) :
    compactCode m = 896 + (m - 2048) / 16 := by
  rw [compactCode, if_neg (by omega), if_neg (by omega), if_pos hhigh]

theorem compactCode_segment3 {m : Nat} (hlow : 8192 ≤ m) : compactCode m = 1280 + (m - 8192) / 32 := by
  rw [compactCode, if_neg (by omega), if_neg (by omega), if_neg (by omega)]

theorem compactCode_le_of_le {m : Nat} (h : m ≤ 32767) : compactCode m ≤ 2047 := by
  unfold compactCode
  split
  · omega
  split
  · omega
  split <;> omega

/-! ### The four segments expanded (R102) -/

theorem expandCode_segment0 {c : Nat} (h : c ≤ 511) : expandCode c = c := if_pos h

theorem expandCode_segment1 {c : Nat} (hlow : 512 ≤ c) (hhigh : c ≤ 895) :
    expandCode c = 512 + 4 * (c - 512) + 2 := by
  rw [expandCode, if_neg (by omega), if_pos hhigh]

theorem expandCode_segment2 {c : Nat} (hlow : 896 ≤ c) (hhigh : c ≤ 1279) :
    expandCode c = 2048 + 16 * (c - 896) + 8 := by
  rw [expandCode, if_neg (by omega), if_neg (by omega), if_pos hhigh]

theorem expandCode_segment3 {c : Nat} (hlow : 1280 ≤ c) : expandCode c = 8192 + 32 * (c - 1280) + 16 := by
  rw [expandCode, if_neg (by omega), if_neg (by omega), if_neg (by omega)]

theorem expandCode_le {c : Nat} (h : c ≤ 2047) : expandCode c ≤ 32752 := by
  unfold expandCode
  split
  · omega
  split
  · omega
  split <;> omega

/-- A code expands to the middle of the magnitudes that it stands for, so within its own segment. -/
theorem compactCode_expandCode (c : Nat) : compactCode (expandCode c) = c := by
  rcases Nat.lt_or_ge c 512 with h0 | h0
  · rw [expandCode_segment0 (by omega), compactCode_segment0 (by omega)]
  rcases Nat.lt_or_ge c 896 with h1 | h1
  · rw [expandCode_segment1 h0 (by omega), compactCode_segment1 (by omega) (by omega)]
    omega
  rcases Nat.lt_or_ge c 1280 with h2 | h2
  · rw [expandCode_segment2 h1 (by omega), compactCode_segment2 (by omega) (by omega)]
    omega
  · rw [expandCode_segment3 h2, compactCode_segment3 (by omega)]
    omega

/-! ### Expanded samples (R102) -/

theorem expandSample_toInt {c : Nat} (h : c ≤ 2047) (negative : Bool) :
    (expandSample negative c).toInt = (if negative then -1 else 1) * (256 * expandCode c : Int) := by
  have hle := expandCode_le h
  rw [expandSample]
  cases negative with
  | false =>
    rw [if_neg Bool.false_ne_true, if_neg Bool.false_ne_true, BitVec.toInt_ofInt_eq_self] <;> omega
  | true => rw [if_pos rfl, if_pos rfl, BitVec.toInt_ofInt_eq_self] <;> omega

theorem scaledMagnitude_eq (s : Sample) : scaledMagnitude s = min (s.toInt.natAbs / 256) 32767 := min_comm ..

theorem scaledMagnitude_expandSample {c : Nat} (h : c ≤ 2047) (negative : Bool) :
    scaledMagnitude (expandSample negative c) = expandCode c := by
  have hle := expandCode_le h
  have habs : (expandSample negative c).toInt.natAbs = 256 * expandCode c := by
    rw [expandSample_toInt h]
    cases negative with
    | false =>
      rw [if_neg Bool.false_ne_true]
      omega
    | true =>
      rw [if_pos rfl]
      omega
  rw [scaledMagnitude_eq, habs]
  omega

/-! ### The compact word (R23, R100) -/

/-- Sign, code and V fill disjoint bits of the word. -/
theorem compactWord_toNat (o : OutSample) : (compactWord o).toNat =
    (if o.value.toInt < 0 then 32768 else 0) + 16 * compactCode (scaledMagnitude o.value)
      + (if o.valid then 1 else 0) := by
  have hcode := compactCode_le o.value
  rw [compactWord_eq, BitVec.toNat_ofNat, Nat.mod_eq_of_lt]
  split <;> split <;> omega

theorem readCompact_eq (w : Word) : readCompact w =
    if w.toNat % 2 = 1 then expandSample (decide (32768 ≤ w.toNat)) (w.toNat / 16 % 2048) else 0 := by
  have hvalid : w.getLsbD 0 = decide (w.toNat % 2 = 1) := by
    rw [BitVec.getLsbD, Nat.testBit_zero]
  have hsign : w.getLsbD 15 = decide (32768 ≤ w.toNat) := by
    have hw := w.isLt
    rw [BitVec.getLsbD, Nat.testBit_eq_decide_div_mod_eq, decide_eq_decide]
    omega
  simp only [readCompact, hvalid, hsign, decide_eq_true_eq]
  rfl

/-- Settles O30: the segments of code and expansion, then the word's fields. -/
theorem compactCodesRoundTrip : Obligations.CompactCodesRoundTrip := by
  unfold Obligations.CompactCodesRoundTrip
  refine ⟨scaledMagnitude_eq, fun m hm => ?_, compactWord_toNat, fun c hc => ?_, readCompact_eq⟩
  · exact ⟨compactCode_segment0, compactCode_segment1, compactCode_segment2, compactCode_segment3,
      compactCode_le_of_le hm⟩
  · exact ⟨expandCode_segment0, expandCode_segment1, expandCode_segment2, expandCode_segment3, expandCode_le hc,
      compactCode_expandCode c, fun negative => ⟨expandSample_toInt hc negative,
        scaledMagnitude_expandSample hc negative⟩⟩

end Sys2Proof.Machine
end

section
/-! The samples of a frame and of its lines (R103, R104): O31. -/

namespace Sys2Proof.Machine

/-! ### Shares that telescope -/

/-- The shares of n steps at S to every d steps: their whole is what n steps have reached. -/
theorem sum_shares (S d n : Nat) :
    ((List.range n).map fun j => (j + 1) * S / d - j * S / d).sum = n * S / d := by
  induction n with
  | zero => simp
  | succ n ih =>
    have hmono : n * S / d ≤ (n + 1) * S / d := Nat.div_le_div_right (Nat.mul_le_mul_right S n.le_succ)
    rw [List.range_succ, List.map_append, List.sum_append, ih, List.map_singleton, List.sum_singleton]
    omega

/-- A list whose counts are all a or a + 1: both kinds make up its length, and the sum says how many there are of the
larger. -/
theorem countP_of_two_values {α : Type} (f : α → Nat) (a : Nat) (l : List α) (h : ∀ x ∈ l, f x = a ∨ f x = a + 1) :
    l.countP (fun x => decide (f x = a)) + l.countP (fun x => decide (f x = a + 1)) = l.length
      ∧ (l.map f).sum = a * l.length + l.countP (fun x => decide (f x = a + 1)) := by
  induction l with
  | nil => exact ⟨rfl, rfl⟩
  | cons x l ih =>
    obtain ⟨hx, hl⟩ := List.forall_mem_cons.1 h
    obtain ⟨hcount, hsum⟩ := ih hl
    rw [List.countP_cons, List.countP_cons, List.map_cons, List.sum_cons, List.length_cons, hsum, Nat.mul_succ]
    simp only [decide_eq_true_eq]
    rcases hx with hx | hx
    · rw [if_pos hx, if_neg (by omega)]
      omega
    · rw [if_neg (by omega), if_pos hx]
      omega

/-! ### The lines of a frame (R104) -/

theorem lineSamples_eq (S j : Nat) : lineSamples S j = (j + 1) * S / 1120 - j * S / 1120 := rfl

/-- The 1120 lines of a frame carry its samples. -/
theorem lineSamples_sum (S : Nat) : ((List.range 1120).map (lineSamples S)).sum = S :=
  (sum_shares S 1120 1120).trans (Nat.mul_div_cancel_left S (by decide))

/-- A line carries the average of the frame, rounded down or up. -/
theorem lineSamples_near_average {S a : Nat} (hlow : 1120 * a ≤ S) (hhigh : S < 1120 * (a + 1)) (j : Nat) :
    lineSamples S j = a ∨ lineSamples S j = a + 1 := by
  rw [lineSamples_eq, Nat.add_mul, Nat.one_mul]
  omega

/-- How many lines carry the average rounded up, and how many the average rounded down. -/
theorem lineSamples_counts {S a : Nat} (hlow : 1120 * a ≤ S) (hhigh : S < 1120 * (a + 1)) :
    (List.range 1120).countP (fun j => decide (lineSamples S j = a + 1)) = S - 1120 * a
      ∧ (List.range 1120).countP (fun j => decide (lineSamples S j = a)) = 1120 * (a + 1) - S := by
  obtain ⟨hcount, hsum⟩ := countP_of_two_values (lineSamples S) a (List.range 1120)
    fun j _ => lineSamples_near_average hlow hhigh j
  rw [lineSamples_sum] at hsum
  rw [List.length_range] at hcount hsum
  omega

/-- Settles O31: the format table row by row, then the lines by the sum of their shares. -/
theorem linesCarryFrameSamples : Obligations.LinesCarryFrameSamples := by
  unfold Obligations.LinesCarryFrameSamples
  refine ⟨fun k => ⟨rfl, rfl, rfl, rfl, rfl, rfl, rfl, rfl⟩, sum_shares 8008 5 5, sum_shares 4004 5 5, fun S hS => ?_⟩
  refine ⟨fun j _ => ⟨lineSamples_eq S j, lineSamples_le (by omega) j⟩, lineSamples_sum S, fun hlong => ?_,
    fun hshort => ?_⟩
  · exact lineSamples_counts (a := 1) (by omega) (by omega)
  · exact lineSamples_counts (a := 0) (by omega) (by omega)

end Sys2Proof.Machine
end

section
/-! A port period by the transmit state (R133, R135): O37. -/

namespace Sys2Proof.Machine

/-! ### The oldest reply for an interface (R135) -/

theorem oldestReply_eq_none {i : Iface} {rs : List Reply} (h : ∀ r ∈ rs, r.iface ≠ i) : oldestReply i rs = none :=
  List.find?_eq_none.2 fun r hr => by simpa using h r hr

section
variable {i : Iface} {before : List Reply} (hbefore : ∀ z ∈ before, z.iface ≠ i) {r : Reply} (hr : r.iface = i)
  (after : List Reply)
include hbefore hr

theorem oldestReply_append_cons : oldestReply i (before ++ r :: after) = some r := by
  have hnone : before.find? (fun z => decide (z.iface = i)) = none := oldestReply_eq_none hbefore
  rw [oldestReply, List.find?_append, hnone, Option.none_or, List.find?_cons_of_pos (by simpa using hr)]

theorem dropOldestReply_append_cons : dropOldestReply i (before ++ r :: after) = before ++ after := by
  rw [dropOldestReply, List.eraseP_append_right _ fun z hz => by simpa using hbefore z hz,
    List.eraseP_cons_of_pos (by simpa using hr)]

end

theorem append_controlBundle (fifo : List PortWord) (payload : List Word) :
    fifo ++ controlBundle payload =
      fifo ++ { marker := true, data := 0x0701 } :: { marker := false, data := 0 } ::
        payload.map (fun d => { marker := false, data := d }) ++ [{ marker := true, data := 2 }] :=
  (List.append_assoc ..).symm

theorem writeReply_of_none {p : PortIx} {s : State} (h : oldestReply (portScope p) s.replies = none) :
    writeReply p s = s := by
  simp only [writeReply, h]

theorem writeReply_of_some {p : PortIx} {s : State} {r : Reply} (h : oldestReply (portScope p) s.replies = some r) :
    writeReply p s =
      if r.payload.length + 3 ≤ 2048 - (s.ports[p]).outFifo.length then
        { s.putPort p { s.ports[p] with outFifo := (s.ports[p]).outFifo ++ controlBundle r.payload } with
          replies := dropOldestReply (portScope p) s.replies }
      else s := by
  have hlen : (controlBundle r.payload).length = r.payload.length + 3 := by simp [controlBundle]
  simp only [writeReply, h, hlen]
  rfl

/-! ### A RUNNING port without a running channel (R133) -/

theorem writeChannels_of_none_running {s : State} {p : PortIx} {x : Port} (h : ∀ c : ChanIx, x.running[c] = false) :
    writeChannels s p x = x := by
  have hnone : (List.finRange 4).filter (fun c => x.running[c]) = [] :=
    List.filter_eq_nil_iff.2 fun c _ => Bool.eq_false_iff.1 (h c)
  rw [writeChannels, writeChannels_eq_offered, hnone]
  rfl

theorem periodReads_of_none_running {p : PortIx} {s : State} (h : ∀ c : ChanIx, (s.ports[p]).running[c] = false) :
    periodReads p s = s := by
  have hdests : (periodReads p s).dests = s.dests := vector_ext_fin fun d => by
    rw [periodReads_dest, if_neg fun hd => Bool.eq_false_iff.1 (h _) hd.2]
  calc periodReads p s = { s with dests := (periodReads p s).dests } := rfl
    _ = s := by rw [hdests]

/-- Only the reply and the count are left of the period. -/
theorem portPeriod_of_none_running {p : PortIx} {s : State} (hrun : (s.ports[p]).transmit = .running)
    (h : ∀ c : ChanIx, (s.ports[p]).running[c] = false) : portPeriod p s = countPeriod p (writeReply p s) := by
  have hwritten : s.modifyPort p (writeChannels s p) = s := by
    rw [State.modifyPort_eq_putPort, writeChannels_of_none_running h, State.putPort_self]
  simp only [portPeriod, hrun, periodReads_of_none_running h, hwritten]

theorem countPeriod_of_putPort (s : State) (p : PortIx) (x : Port) :
    countPeriod p (s.putPort p x) = s.putPort p { x with nextCount := x.nextCount + 1 } :=
  countPeriod_putPort s p x s.replies

/-- Settles O37: the transmit state decides, and of a period without channels its reply. -/
theorem portPeriodByState : Obligations.PortPeriodByState := by
  intro p s hs x counted
  have hexec : exec (.portPeriod p) s = .next (portPeriod p (s.putPort p x)) := powered_on hs fun s =>
    portPeriod p (s.modifyPort p fun x => { x with periodDue := false })
  have hport : (s.putPort p x).ports[p] = x := State.putPort_port s p x
  refine ⟨fun hdisabled => ?_, fun hstalled => ?_, fun hrun hnone => ?_⟩
  · simp only [hexec, portPeriod, hport, hdisabled]
  · simp only [hexec, portPeriod, hport, hstalled, countPeriod_of_putPort, counted]
  have hperiod : portPeriod p (s.putPort p x) = countPeriod p (writeReply p (s.putPort p x)) :=
    portPeriod_of_none_running (by rw [hport]; exact hrun) fun c => by rw [hport, hnone]; simp
  refine ⟨fun hno => ?_, fun before after r hreplies hr hbefore => ?_⟩
  · have hold : oldestReply (portScope p) (s.putPort p x).replies = none :=
      oldestReply_eq_none fun r hr e => hno r hr ((eq_portScope_iff ..).1 e)
    rw [hexec, hperiod, writeReply_of_none hold, countPeriod_of_putPort]
  · have hfor : r.iface = portScope p := (eq_portScope_iff ..).2 hr
    have hothers (z : Reply) (hz : z ∈ before) : z.iface ≠ portScope p := fun e =>
      hbefore z hz ((eq_portScope_iff ..).1 e)
    have hqueue : (s.putPort p x).replies = before ++ r :: after := hreplies
    have hold : oldestReply (portScope p) (s.putPort p x).replies = some r := by
      rw [hqueue, oldestReply_append_cons hothers hfor]
    rw [hexec, hperiod, writeReply_of_some hold, hport, hqueue, dropOldestReply_append_cons hothers hfor,
      State.putPort_putPort]
    split
    · rw [countPeriod_putPort, append_controlBundle]
    · rw [countPeriod_of_putPort]

end Sys2Proof.Machine
end

section
/-! One sample of the station clock on an empty queue (R127, R129, R132, R154; log entries 2, 12 and 19): O2. -/

namespace Sys2Proof.Machine

/-! ### Nothing due -/

theorem step_stationSample {s : State} (hpending : s.pending = []) (hs : s.resetHeld = false) (hdue : dueSteps s = []) :
    step s = .next (stationSample s) := by
  simp only [step, hpending, idleStep, hs, Bool.false_eq_true, if_false, hdue]

theorem portDue_of_dueSteps_nil {s : State} (h : dueSteps s = []) (p : PortIx) : portDue p s.ports[p] = [] := by
  obtain ⟨hports, -⟩ := List.append_eq_nil_iff.1 h
  obtain ⟨hzero, hone⟩ := List.append_eq_nil_iff.1 hports
  by_cases hp : p = 0
  · subst hp
    exact hzero
  · obtain rfl := Fin.eq_one_of_ne_zero p hp
    exact hone

theorem absenceDue_of_portDue_nil {p : PortIx} {x : Port} (h : portDue p x = []) (c : ChanIx) :
    x.absenceDue[c] = false :=
  Bool.eq_false_iff.2 fun hc => by simpa [h] using (timeout_mem_portDue p c x).2 hc

/-! ### A port at a sample (R127, R129, R132) -/

/-- A timer expires at a sample that brings it to 2048, or finds it there. -/
theorem timerExpires_eq (timer : Option Nat) : timerExpires timer = timer.any fun k => decide (2047 ≤ k) := by
  cases timer with
  | none => rfl
  | some k =>
    have hreached : min 2048 (k + 1) = 2048 ↔ 2047 ≤ k := by omega
    simp [timerExpires, tickTimer, hreached]

theorem tickPort_absenceDue (x : Port) (c : ChanIx) :
    (tickPort x).absenceDue[c] = (x.absenceDue[c] || timerExpires x.absence[c]) := by
  have hdue : (tickPort x).absenceDue = updateAll x.absenceDue fun c due => due || timerExpires x.absence[c] := by
    unfold tickPort
    split <;> rfl
  rw [hdue, updateAll_getElem_fin]

/-- The position and the port events move where the port follows the station clock, the timers on every port. -/
theorem tickPort_eq (x : Port) :
    let ticks := decide (x.clock = .station)
    let position := if ticks then (x.position + 1) % 1024 else x.position
    tickPort x = { x with
      absence := x.absence.map tickTimer
      absenceDue := (tickPort x).absenceDue
      stallTimer := tickStall x
      position := position
      periodDue := x.periodDue || (ticks && decide (position % 16 = 0))
      frameDue := x.frameDue || (ticks && decide (position = 0)) } := by
  intro ticks position
  by_cases hclock : x.clock = .station
  · have hticks : ticks = true := decide_eq_true hclock
    simp only [position, hticks, if_true, Bool.true_and, tickPort, if_pos hclock, advancePort]
  · have hticks : ticks = false := decide_eq_false hclock
    simp only [position, hticks, Bool.false_eq_true, if_false, Bool.false_and, Bool.or_false, tickPort, if_neg hclock]

/-- Settles O2: one sample, port by port; no expiry is left over from an earlier one. -/
theorem idleStepLetsStationClockRun : Obligations.IdleStepLetsStationClockRun := by
  intro s hpending hs hdue
  refine ⟨stationSample s, step_stationSample hpending hs hdue, rfl, rfl, fun p => ?_⟩
  have hport : (stationSample s).ports[p] = tickPort s.ports[p] := updateAll_getElem_fin ..
  rw [hport]
  refine ⟨fun c => ?_, tickPort_eq s.ports[p]⟩
  rw [tickPort_absenceDue, absenceDue_of_portDue_nil (portDue_of_dueSteps_nil hdue p), Bool.false_or, timerExpires_eq]

end Sys2Proof.Machine
end

section
/-! SET REFERENCE: its settings, its preset and its refusal (R25, R143, R145): O44. -/

namespace Sys2Proof.Machine

/-! ### The words of the request (R143) -/

theorem readRole_eq (w : Word) : readRole w = if decide (w.toNat % 2 = 1) = true then .follower else .leader := by
  have hbit : w.getLsbD 0 = decide (w.toNat % 2 = 1) := (getLsbD_eq_decide w 0).trans (by simp)
  rw [readRole, hbit]

theorem readRole_eq_follower_iff (w : Word) : readRole w = .follower ↔ decide (w.toNat % 2 = 1) = true := by
  rw [readRole_eq]
  split <;> simp [*]

theorem inSet_loByte (w : Word) (m : LaneIx) : inSet (loByte w) m = w.getLsbD m.val := by
  simp [inSet, loByte, m.isLt]

theorem inSet_hiByte (w : Word) (m : LaneIx) : inSet (hiByte w) m = w.getLsbD (8 + m.val) := by
  simp [inSet, hiByte, m.isLt]

/-- A mark waits on where the new settings let it: on a lane of the mark-output set of a FOLLOWER (R143). -/
theorem setSettings_pendingMark (reference marks : Word) (r : Reference) (m : LaneIx) :
    (setSettings reference marks r).pendingMark[m] =
      if decide (reference.toNat % 2 = 1) = true ∧ marks.getLsbD (8 + m.val) = true then r.pendingMark[m] else none := by
  simp only [setSettings, updateAll_getElem_fin, readRole_eq_follower_iff, inSet_hiByte]

/-- The flags an RC event of a preset leaves: of the LOCKED lanes, whatever their format (R145). -/
theorem rcEvent_none_realign (s : State) (m : LaneIx) :
    (rcEvent none s).ref.realign[m] = (s.ref.realign[m] || decide ((s.lanes[m]).inputState = .locked)) := by
  simp only [rcEvent, State.modifyRef_ref, updateAll_getElem_fin, Option.isNone_none, Bool.true_or, Bool.and_true]

/-! ### The command (R25, R143) -/

section
variable {s : State} (hs : s.resetHeld = false) (hroom : s.replies.length < 8) (i : Iface) (tag reference marks : Word)
include hs

theorem exec_setReference (params : List Word) :
    exec (.setReference i tag params) s = .next (setReference i tag params s) :=
  powered_on hs (setReference i tag params)

include hroom

theorem exec_setReference_settings :
    exec (.setReference i tag [reference, marks]) s =
      .next ({ s with ref := setSettings reference marks s.ref }.answer i 0 tag 0x11 []) := by
  rw [exec_setReference hs, setReference, withRoom_free hroom]
  simp only [queueReply_eq_answer]
  rfl

theorem exec_setReference_preset {preset : Word} (hpreset : preset.toNat < 60000) :
    exec (.setReference i tag [reference, marks, preset]) s =
      .next ((rcEvent none
        { s with ref := { setSettings reference marks s.ref with count := ⟨preset.toNat, hpreset⟩ } }).answer
          i 0 tag 0x11 []) := by
  rw [exec_setReference hs, setReference, withRoom_free hroom]
  simp only [readIndex_of_lt hpreset, queueReply_eq_answer]
  rfl

theorem exec_setReference_refused {preset : Word} (hpreset : ¬ preset.toNat < 60000) :
    exec (.setReference i tag [reference, marks, preset]) s = .next (s.answer i 0x15 tag 0x11 []) := by
  rw [exec_setReference hs, setReference, withRoom_free hroom]
  simp only [readIndex_of_not_lt hpreset, refuse, queueReply_eq_answer]
  rfl

end

/-- Settles O44: the settings are the same in both forms that are taken, which differ in the count and the realign flags. -/
theorem referenceIsSet : Obligations.ReferenceIsSet := by
  intro i tag reference marks s hs hroom follows settled
  have hsettled (count : Fin 60000) (flags : Vector Bool 8) :
      settled { setSettings reference marks s.ref with count := count, realign := flags } :=
    ⟨readRole_eq reference, rfl, fun m => ⟨inSet_loByte marks m, inSet_hiByte marks m⟩,
      setSettings_pendingMark reference marks s.ref, rfl, rfl, rfl, rfl, rfl⟩
  refine ⟨?_, fun preset hpreset => ?_, fun preset hpreset => ?_⟩
  · exact ⟨_, exec_setReference_settings hs hroom i tag reference marks, hsettled s.ref.count s.ref.realign, rfl, rfl⟩
  · exact ⟨_, exec_setReference_preset hs hroom i tag reference marks hpreset, hsettled ⟨preset.toNat, hpreset⟩ _, rfl,
      rcEvent_none_realign _⟩
  · exact exec_setReference_refused hs hroom i tag reference marks (Nat.not_lt.2 hpreset)

end Sys2Proof.Machine
end

section
/-! The tests of a take request (R150), OPEN TAKE and ABANDON TAKE, and the expiry of a take (R151, R154, R156): O49, O50. -/

namespace Sys2Proof.Machine

/-! ### The tests of R150 -/

theorem ownTake_none {s : State} (h : s.take = none) (i : Iface) : ownTake i s = .error .noTake := by
  simp only [ownTake, h]

section
variable {s : State} {k : Take} (hk : s.take = some k)
include hk

theorem ownTake_held {i : Iface} (hi : i ≠ k.owner) : ownTake i s = .error .takeHeld := by
  simp only [ownTake, hk, if_pos hi.symm]

theorem ownTake_pending (hp : k.state = .pending) : ownTake k.owner s = .error .pending := by
  simp only [ownTake, hk, hp, ne_eq, not_true_eq_false, if_false, if_true]

theorem ownTake_owner (ho : k.state = .opened) : ownTake k.owner s = .ok k :=
  (ownTake_ok_iff ..).2 ⟨hk, rfl, ho⟩

end

section
variable {s : State} (hroom : s.replies.length < 8) {i : Iface} {status : Status} (herr : ownTake i s = .error status)
  (tag : Word) (params : List Word)
include hroom herr

theorem setRoute_ownTake_error
    (hf : decide (2 ≤ params.length ∧ params.length = 5 + (params.getD 1 0).toNat / 256 % 8) = true) :
    setRoute i tag params s = queueReply i status tag 0x21 [] s := by
  rw [setRoute, withRoom_free hroom]
  match params with
  | _ :: flags :: _ :: _ :: _ :: candidates =>
    have hc : candidates.length = countField flags := by
      simp only [List.length_cons, List.getD_cons_succ, List.getD_cons_zero, decide_eq_true_eq] at hf
      simp only [countField, field]
      omega
    simp only [if_pos hc, routeRequest, herr]
  | [] | [_] | [_, _] | [_, _, _] | [_, _, _, _] =>
    simp only [List.length_cons, List.length_nil, decide_eq_true_eq] at hf
    omega

theorem setPlan_ownTake_error (hf : (decide (params.length = 3) && decide ((params.getD 0 0).toNat < 10)) = true) :
    setPlan i tag params s = queueReply i status tag 0x22 [] s := by
  rw [Bool.and_eq_true, decide_eq_true_eq, decide_eq_true_eq] at hf
  obtain ⟨hlen, hlt⟩ := hf
  obtain ⟨w, a, b, rfl⟩ := List.length_eq_three.1 hlen
  rw [setPlan, withRoom_free hroom]
  simp only [readIndex_of_lt (show w.toNat < 10 from hlt), herr]

theorem commitTake_ownTake_error (hf : decide (params.length = 0) = true) :
    commitTake i tag params s = queueReply i status tag 0x23 [] s := by
  obtain rfl := List.length_eq_zero_iff.1 (of_decide_eq_true hf)
  rw [commitTake, withoutParams_nil hroom, herr]

theorem abandonTake_ownTake_error (hf : decide (params.length = 0) = true) :
    abandonTake i tag params s = queueReply i status tag 0x24 [] s := by
  obtain rfl := List.length_eq_zero_iff.1 (of_decide_eq_true hf)
  rw [abandonTake, withoutParams_nil hroom, herr]

/-- A take request that passes the room and form tests and fails a test of R150 is answered with that test's status. -/
theorem takeRequest_ownTake_error {kind : Byte} (hkind : kind = 0x21 ∨ kind = 0x22 ∨ kind = 0x23 ∨ kind = 0x24)
    (hf : Request.formed ⟨i, kind.toNat, tag, params⟩ = true) :
    takeRequest i kind tag params s = s.answer i (statusCode status).toNat tag kind.toNat [] := by
  rw [← queueReply_eq_answer]
  rcases hkind with rfl | rfl | rfl | rfl
  · exact setRoute_ownTake_error hroom herr tag params hf
  · exact setPlan_ownTake_error hroom herr tag params hf
  · exact commitTake_ownTake_error hroom herr tag params hf
  · exact abandonTake_ownTake_error hroom herr tag params hf

end

/-- Settles O50: the row is one of the four take requests, and each asks the three tests before anything else. -/
theorem takeTestsInOrder : Obligations.TakeTestsInOrder := by
  intro c q s hs hroom hq hrow hformed hkinds
  obtain ⟨kind, hkind, hexec | ⟨hc, -⟩⟩ := exec_request_cases hs hq
  · have hbyte : kind = 0x21 ∨ kind = 0x22 ∨ kind = 0x23 ∨ kind = 0x24 := by
      rw [hkind] at hkinds
      exact hkinds.imp BitVec.eq_of_toNat_eq
        (Or.imp BitVec.eq_of_toNat_eq (Or.imp BitVec.eq_of_toNat_eq BitVec.eq_of_toNat_eq))
    have refused {status : Status} (herr : ownTake q.iface s = .error status) :
        exec c s = .next (s.answer q.iface (statusCode status).toNat q.tag q.kind []) := by
      rw [hexec, hkind, takeRequest_ownTake_error hroom herr q.tag q.params hbyte (by rwa [← hkind])]
    refine ⟨fun hnone => refused (ownTake_none hnone _), fun k hk => ⟨fun hi => refused (ownTake_held hk hi), ?_⟩⟩
    exact fun hi hp => refused (status := .pending) (by rw [hi]; exact ownTake_pending hk hp)
  · exact (hrow _ _ _ _ hc).elim

/-! ### OPEN TAKE, ABANDON TAKE and the expiry (R151, R154, R156) -/

section
variable {s : State} (hs : s.resetHeld = false)
include hs

/-- OPEN TAKE, the room test passed (R151). -/
theorem exec_openTake (hroom : s.replies.length < 8) (i scope : Iface) (tag : Word) :
    exec (.openTake i tag [BitVec.ofNat 16 scope.val]) s = .next
      (if s.take = none then
        { s with take := some {
            state := .opened, scope := scope, owner := i, latches := [], plan := none, expiry := 0, origin := .commit
            tag := 0 } }.answer i 0 tag 0x20 []
      else s.answer i 0x11 tag 0x20 []) := by
  have h : exec (.openTake i tag [BitVec.ofNat 16 scope.val]) s =
      powered s (openTake i tag [BitVec.ofNat 16 scope.val]) := rfl
  rw [h, powered_on hs, openTake, withIndex_ofNat hroom i tag (by decide)]
  cases s.take with
  | none => simp only [queueReply_eq_answer]; rfl
  | some k => simp only [queueReply_eq_answer]; rfl

theorem exec_abandonTake (i : Iface) (tag : Word) (params : List Word) :
    exec (.abandonTake i tag params) s = .next (abandonTake i tag params s) :=
  powered_on hs (abandonTake i tag params)

/-- The owner's ABANDON TAKE, by the state of the take (R150, R156). -/
theorem exec_abandonTake_owner (hroom : s.replies.length < 8) {k : Take} (hk : s.take = some k) (tag : Word) :
    exec (.abandonTake k.owner tag []) s = .next
      (if k.state = .opened then { s with take := none }.answer k.owner 0 tag 0x24 []
      else s.answer k.owner 0x13 tag 0x24 []) := by
  rw [exec_abandonTake hs]
  cases hstate : k.state with
  | opened =>
    rw [abandonTake, withoutParams_nil hroom, ownTake_owner hk hstate, queueReply_eq_answer]
    rfl
  | pending =>
    rw [abandonTake_ownTake_error hroom (ownTake_pending hk hstate) tag [] rfl, queueReply_eq_answer]
    rfl

theorem exec_takeExpiry_none (h : s.take = none) : exec .takeExpiry s = .next s := by
  have hx : exec .takeExpiry s = execTakeExpiry s := rfl
  rw [hx, execTakeExpiry, powered_on hs, h]

theorem exec_takeExpiry_some {k : Take} (hk : s.take = some k) :
    exec .takeExpiry s = .next (if k.state = .opened then { s with take := none } else s) := by
  have hx : exec .takeExpiry s = execTakeExpiry s := rfl
  rw [hx, execTakeExpiry, powered_on hs, hk]

end

/-- Settles O49: a take is created only where there is none, and discarded only while OPEN. -/
theorem takeOpensAndEnds : Obligations.TakeOpensAndEnds := fun _ hs =>
  ⟨fun i tag scope hroom => exec_openTake hs hroom i scope tag,
    fun _ tag hroom hk => exec_abandonTake_owner hs hroom hk tag,
    exec_takeExpiry_none hs, fun _ => exec_takeExpiry_some hs⟩

end Sys2Proof.Machine
end

section
/-! SET ROUTE: its tests in order and its latch (R25, R66, R152): O51. -/

namespace Sys2Proof.Machine

/-! ### Scopes of destinations and candidates (R25, R149) -/

/-- The destinations of a scope: 16 of a lane, 32 of a port (R149). -/
theorem trackScope_eq_iff (d : DestIx) (scope : Iface) : trackScope d = scope ↔
    if scope.val < 8 then d.val / 16 = scope.val else d.val / 32 = scope.val - 4 := by
  rcases scope_cases scope with ⟨n, rfl⟩ | ⟨p, rfl⟩
  · rw [trackScope_eq_laneScope_iff, if_pos (show (laneScope n).val < 8 from n.isLt)]
    rfl
  · rw [trackScope_eq_portScope_iff, if_neg (show ¬ (portScope p).val < 8 by simp [portScope])]
    simp only [portScope]
    omega

/-- Candidate words are read exactly where they are the words of source indices. -/
theorem readCandidates_eq_some_iff (ws : List Word) (cs : List SourceIx) :
    readCandidates ws = some cs ↔ ws = cs.map fun c => BitVec.ofNat 16 c.val := by
  refine ⟨fun h => ?_, fun h => h ▸ readCandidates_words cs⟩
  induction ws generalizing cs with
  | nil => cases h; rfl
  | cons w ws ih =>
    simp only [readCandidates] at h
    split at h
    · obtain ⟨rest, hrest, rfl⟩ := Option.map_eq_some_iff.1 h
      simp [← ih rest hrest]
    · cases h

theorem sourceWord_injective : Function.Injective fun c : SourceIx => BitVec.ofNat 16 c.val := by
  intro c d h
  have hc := c.isLt
  have hd := d.isLt
  have hval := congrArg BitVec.toNat h
  simp only [BitVec.toNat_ofNat] at hval
  exact Fin.ext (by omega)

/-! ### The latches (R152) -/

/-- A destination latched is found with its new entry, and every other one as before. -/
theorem latchEntry_find (latches : List (DestIx × RouteEntry)) (d : DestIx) (e : RouteEntry) (c : DestIx) :
    ((latchEntry latches d e).find? fun x => decide (x.1 = c)) =
      if c = d then some (d, e) else latches.find? fun x => decide (x.1 = c) := by
  induction latches with
  | nil => by_cases hc : c = d <;> simp [latchEntry, hc, eq_comm]
  | cons x rest ih =>
    obtain ⟨i, y⟩ := x
    simp only [latchEntry]
    split
    · by_cases hc : c = d <;> simp [hc, eq_comm]
    · split
      next hi =>
        subst hi
        by_cases hc : c = d <;> simp [hc, eq_comm]
      next hi =>
        by_cases hic : i = c
        · subst hic
          simp [Ne.symm hi]
        · simp [hic, ih]

/-- The latch count rises only when the destination had none; the latches stand by rising destination. -/
theorem latchEntry_length {latches : List (DestIx × RouteEntry)} (h : (latches.map Prod.fst).Pairwise (· < ·))
    (d : DestIx) (e : RouteEntry) : (latchEntry latches d e).length =
      latches.length + (if (latches.find? fun x => decide (x.1 = d)).isSome then 0 else 1) := by
  induction latches with
  | nil => rfl
  | cons x rest ih =>
    simp only [List.map_cons, List.pairwise_cons] at h
    obtain ⟨hx, hrest⟩ := h
    simp only [latchEntry]
    split
    next hlt =>
      have hnone : ((x :: rest).find? fun y => decide (y.1 = d)) = none := by
        rw [List.find?_eq_none]
        intro y hy
        have hdy : d < y.1 := by
          rcases List.mem_cons.1 hy with rfl | hy
          · exact hlt
          · exact hlt.trans (hx y.1 (List.mem_map_of_mem hy))
        simpa using hdy.ne'
      rw [hnone]
      rfl
    next =>
      split
      next heq => simp [heq]
      next hne =>
        rw [List.length_cons, ih hrest, List.find?_cons_of_neg (by simpa using Ne.symm hne), List.length_cons]
        omega

/-! ### The entry tests (R152) -/

section
variable {t : Take} {dest flags codes gain delay : Word} {candidates : List Word}

theorem testRoute_dest (h : 192 ≤ dest.toNat) :
    testRoute t dest flags codes gain delay candidates = .error .badEntry := by
  simp only [testRoute, readIndex_of_not_lt (Nat.not_lt.2 h)]

variable {d : DestIx} (hd : readIndex 192 dest = some d)
include hd

theorem testRoute_scope (h : trackScope d ≠ t.scope) :
    testRoute t dest flags codes gain delay candidates = .error .outOfScope := by
  simp only [testRoute, hd, if_pos h]

variable (hscope : trackScope d = t.scope)
include hscope

theorem testRoute_count (h : 4 < countField flags ∨ (countField flags = 0 ∧ flags.getLsbD 0 = true)) :
    testRoute t dest flags codes gain delay candidates = .error .badEntry := by
  simp only [testRoute, hd, hscope, ne_eq, not_true_eq_false, if_false, if_pos h]

variable (hcount : ¬ (4 < countField flags ∨ (countField flags = 0 ∧ flags.getLsbD 0 = true)))
include hcount

theorem testRoute_candidates (h : (∃ w ∈ candidates, 192 ≤ w.toNat) ∨ ¬ candidates.Nodup) :
    testRoute t dest flags codes gain delay candidates = .error .badEntry := by
  simp only [testRoute, hd, hscope, ne_eq, not_true_eq_false, if_false, if_neg hcount]
  cases hcs : readCandidates candidates with
  | none => rfl
  | some cs =>
    obtain rfl := (readCandidates_eq_some_iff _ _).1 hcs
    have htwice : ¬ cs.Nodup := by
      rcases h with ⟨w, hw, hlarge⟩ | h
      · obtain ⟨c, -, rfl⟩ := List.mem_map.1 hw
        rw [BitVec.toNat_ofNat] at hlarge
        omega
      · exact fun hnodup => h (hnodup.map sourceWord_injective)
    exact if_neg htwice

theorem testRoute_accepted {cs : List SourceIx} (hcs : readCandidates candidates = some cs) (hnodup : cs.Nodup) :
    testRoute t dest flags codes gain delay candidates = .ok (d, readEntry flags codes gain delay cs) := by
  simp only [testRoute, hd, hscope, ne_eq, not_true_eq_false, if_false, if_neg hcount, hcs, if_pos hnodup]

end

/-! ### The command (R152) -/

section
variable {s : State} (hs : s.resetHeld = false) (hroom : s.replies.length < 8)
  {dest flags codes gain delay : Word} {candidates : List Word} (hlen : candidates.length = countField flags) (tag : Word)
include hs hroom hlen

/-- SET ROUTE, the room and form tests passed. -/
theorem exec_setRoute (i : Iface) :
    exec (.setRoute i tag (dest :: flags :: codes :: gain :: delay :: candidates)) s =
      .next (routeRequest i tag dest flags codes gain delay candidates s) := by
  have hx (ps : List Word) : exec (.setRoute i tag ps) s = powered s (setRoute i tag ps) := rfl
  rw [hx, powered_on hs, setRoute, withRoom_free hroom]
  exact congrArg Host.Outcome.next (if_pos hlen)

variable {k : Take} (hk : s.take = some k) (ho : k.state = .opened)
include hk ho

theorem exec_setRoute_refused {status : Status}
    (h : testRoute k dest flags codes gain delay candidates = .error status) :
    exec (.setRoute k.owner tag (dest :: flags :: codes :: gain :: delay :: candidates)) s =
      .next (s.answer k.owner (statusCode status).toNat tag 0x21 []) := by
  rw [exec_setRoute hs hroom hlen, routeRequest, ownTake_owner hk ho]
  simp only [h, queueReply_eq_answer]
  rfl

theorem exec_setRoute_latched {d : DestIx} {e : RouteEntry}
    (h : testRoute k dest flags codes gain delay candidates = .ok (d, e)) :
    exec (.setRoute k.owner tag (dest :: flags :: codes :: gain :: delay :: candidates)) s =
      .next ({ s with take := some (latchRoute k d e) }.answer k.owner (if e.delay = delay.toNat then 0 else 1) tag 0x21
        []) := by
  rw [exec_setRoute hs hroom hlen, routeRequest, ownTake_owner hk ho]
  simp only [h, queueReply_eq_answer]
  split <;> rfl

end

theorem clampDelay_eq_iff (n : Nat) : clampDelay n = n ↔ 128 ≤ n ∧ n ≤ 6000 := by
  simp only [clampDelay]
  omega

/-- The entry of SET ROUTE's words, its bits and codes by division (R66, R152). -/
theorem readEntry_eq (flags codes gain delay : Word) (cs : List SourceIx) :
    readEntry flags codes gain delay cs = {
      enabled := decide (flags.toNat / 2 ^ 0 % 2 = 1), candidates := cs, gain := gain
      invert := decide (flags.toNat / 2 ^ 1 % 2 = 1), mute := decide (flags.toNat / 2 ^ 2 % 2 = 1)
      delay := max 128 (min 6000 delay.toNat)
      absenceFill := if decide (flags.toNat / 2 ^ 3 % 2 = 1) then .hold else .silence
      silenceWatch := decide (flags.toNat / 2 ^ 4 % 2 = 1)
      failCode := ⟨codes.toNat % 8, Nat.mod_lt _ (by decide)⟩
      revertCode := ⟨codes.toNat / 16 % 8, Nat.mod_lt _ (by decide)⟩
      policy := if decide (flags.toNat / 2 ^ 5 % 2 = 1) then .latched else .auto } := by
  simp only [readEntry, getLsbD_eq_decide, field, clampDelay, Nat.pow_zero, Nat.div_one]
  rfl

/-- Settles O51: a word below 192 is a destination, whose scope, count and candidates are tested in this order. -/
theorem routeIsLatched : Obligations.RouteIsLatched := by
  intro tag dest flags codes gain delay candidates k s hs hroom hk ho hlen request refused inScope bit
  have hfield : candidates.length = countField flags := hlen
  have refuse {status : Status} (h : testRoute k dest flags codes gain delay candidates = .error status) :
      refused (statusCode status).toNat := exec_setRoute_refused hs hroom hfield tag hk ho h
  have hscoped {d : DestIx} (hd : d.val = dest.toNat) : trackScope d = k.scope ↔ inScope := by
    rw [trackScope_eq_iff, hd]
  have hbit : flags.getLsbD 0 = bit 0 := getLsbD_eq_decide flags 0
  have hcount (h4 : candidates.length ≤ 4) (hsome : candidates ≠ [] ∨ bit 0 = false) :
      ¬ (4 < countField flags ∨ (countField flags = 0 ∧ flags.getLsbD 0 = true)) := by
    rw [← hfield, hbit, List.length_eq_zero_iff]
    rintro (h | ⟨hnil, hon⟩)
    · omega
    · rcases hsome with h | h
      · exact h hnil
      · exact absurd hon (by rw [h]; decide)
  refine ⟨fun h => refuse (testRoute_dest h), fun hlt hscope => ?_, fun hlt hscope h => ?_,
    fun hlt hscope h4 hsome h => ?_, fun d sources hd hscope hcs hnodup h4 hsome => ?_⟩
  · exact refuse (testRoute_scope (readIndex_of_lt hlt) (mt (hscoped rfl).1 hscope))
  · refine refuse (testRoute_count (readIndex_of_lt hlt) ((hscoped rfl).2 hscope) ?_)
    rwa [← hfield, hbit]
  · exact refuse (testRoute_candidates (readIndex_of_lt hlt) ((hscoped rfl).2 hscope) (hcount h4 hsome) h)
  · have hindex : readIndex 192 dest = some d := by
      rw [readIndex_of_lt (by have := d.isLt; omega)]
      exact congrArg some (Fin.ext hd.symm)
    have haccepted := testRoute_accepted (codes := codes) (gain := gain) (delay := delay) hindex ((hscoped hd).2 hscope)
      (hcount h4 hsome) ((readCandidates_eq_some_iff _ _).2 hcs) hnodup
    rw [readEntry_eq] at haccepted
    simp only [← clampDelay_eq_iff]
    exact ⟨_, exec_setRoute_latched hs hroom hfield tag hk ho haccepted, latchEntry_find k.latches d _,
      fun hfit => latchEntry_length ((latchesFit_iff _ _).1 hfit).1 d _⟩

end Sys2Proof.Machine
end

section
/-! SET PLAN: its scope test and its latch (R10, R12, R25, R153): O52. -/

namespace Sys2Proof.Machine

/-! ### The words of a plan (R153) -/

theorem readBudget_eq (b : Word) :
    readBudget b = if b.toNat = 0 then none else some (max 32 (min 256 b.toNat)) := by
  have hzero : b = 0 ↔ b.toNat = 0 := by simp [← BitVec.toNat_inj]
  simp only [readBudget, hzero]

theorem planAdjusted_laneScope (n : LaneIx) (b : Word) :
    planAdjusted (laneScope n) b = !decide (b.toNat = 0 ∨ (32 ≤ b.toNat ∧ b.toNat ≤ 256)) := by
  rw [planAdjusted, ifacePlace_laneScope, ← decide_not, decide_eq_decide]
  omega

@[simp] theorem planAdjusted_portScope (p : PortIx) (b : Word) : planAdjusted (portScope p) b = false := by
  rw [planAdjusted, ifacePlace_portScope]

theorem readPlan_laneScope (n : LaneIx) (a b : Word) : readPlan (laneScope n) a b = .lane (readLanePlan a b) := by
  rw [readPlan, ifacePlace_laneScope]

theorem readPlan_portScope (p : PortIx) (a b : Word) : readPlan (portScope p) a b = .port (readPortPlan a b) := by
  rw [readPlan, ifacePlace_portScope]

/-- The mode of a group is the one of its two bits of word A (R10). -/
theorem readLanePlan_modes (a b : Word) (g : GroupIx) :
    (readLanePlan a b).modes[g] = readMode (a.toNat / 4 ^ g.val % 4) := by
  rw [readLanePlan, four_getElem, field, pow_mul]
  rfl

theorem readPortPlan_channels (a b : Word) (c : ChanIx) :
    (readPortPlan a b).channels[c] = decide (a.toNat / 2 ^ c.val % 2 = 1) := by
  rw [readPortPlan, four_getElem, getLsbD_eq_decide]

/-- The clock of a port plan: internal by bit 3 of word B, else the lane of bits 2 to 0. -/
theorem readPortPlan_clock (a b : Word) : (readPortPlan a b).clock =
    if b.toNat / 8 % 2 = 1 then .station else .lane ⟨b.toNat % 8, Nat.mod_lt _ (by decide)⟩ := by
  simp only [readPortPlan, getLsbD_eq_decide, decide_eq_true_eq, field, Nat.pow_zero, Nat.div_one]
  rfl

/-! ### The command (R150, R153) -/

section
variable {s : State} (hs : s.resetHeld = false) (hroom : s.replies.length < 8) {k : Take} (hk : s.take = some k)
  (ho : k.state = .opened) (tag a b : Word)
include hs hroom hk ho

/-- SET PLAN of the owner of an OPEN take, by its scope parameter (R153). -/
theorem exec_setPlan_owner (scope : Iface) :
    exec (.setPlan k.owner tag [BitVec.ofNat 16 scope.val, a, b]) s = .next
      (if scope ≠ k.scope then s.answer k.owner 0x12 tag 0x22 []
      else { s with take := some { k with plan := some (readPlan scope a b), expiry := 0 } }.answer k.owner
        (if planAdjusted scope b then 1 else 0) tag 0x22 []) := by
  have hx (ps : List Word) : exec (.setPlan k.owner tag ps) s = powered s (setPlan k.owner tag ps) := rfl
  rw [hx, powered_on hs, setPlan, withRoom_free hroom]
  simp only [readIndex_ofNat (n := 10) (by decide) scope, ownTake_owner hk ho, queueReply_eq_answer]
  cases planAdjusted scope b <;> rfl

end

/-- Settles O52: the scope parameter is the take's or not, and the take's scope is a lane's or a port's. -/
theorem planIsLatched : Obligations.PlanIsLatched := by
  intro tag a b scope k s hs hroom hk ho request latched
  have hexec := exec_setPlan_owner hs hroom hk ho tag a b scope
  refine ⟨fun hne => by rwa [if_pos hne] at hexec, fun heq hlane => ?_, fun heq hport => ?_⟩
  all_goals
    rw [if_neg (not_not.2 heq)] at hexec
  · obtain ⟨n, rfl⟩ : ∃ n, scope = laneScope n := ⟨⟨scope.val, hlane⟩, rfl⟩
    refine ⟨readLanePlan a b, ?_, readBudget_eq b, fun g => ?_⟩
    · rw [readPlan_laneScope, planAdjusted_laneScope] at hexec
      simpa only [Bool.not_eq_true', decide_eq_false_iff_not, ite_not] using hexec
    · rw [readLanePlan_modes]
      exact ⟨congrArg readMode, congrArg readMode, congrArg readMode, congrArg readMode⟩
  · obtain ⟨p, rfl⟩ : ∃ p, scope = portScope p :=
      ⟨⟨scope.val - 8, by omega⟩, (eq_portScope_iff ..).2 (by simp only; omega)⟩
    refine ⟨readPortPlan a b, ?_, readPortPlan_channels a b, ?_⟩
    · rw [readPlan_portScope, planAdjusted_portScope] at hexec
      exact hexec
    · rw [readPortPlan_clock]
      split
      · rfl
      · exact ⟨_, rfl, rfl⟩

end Sys2Proof.Machine
end

section
/-! The waiting commands and the straps: what every part of a command's effect leaves of them (R172). -/

namespace Sys2Proof.Machine

/-! ### What is fixed under a command -/

/-- What no command but the release of power-on reset changes: the waiting commands and the straps as read (R172). -/
def State.fixed (s : State) : List Instr × Straps :=
  (s.pending, s.straps)

theorem State.fixed_eq_iff (s t : State) : t.fixed = s.fixed ↔ t.pending = s.pending ∧ t.straps = s.straps :=
  Prod.ext_iff

/-! ### Output sides and takes (R83, R84, R157 to R161) -/

section
variable (s : State)

theorem settleScope_fixed (scope : Iface) : (settleScope scope s).fixed = s.fixed := by
  rw [settleScope_eq]
  rfl

theorem applyTake_fixed (lost : Option LaneIx) (t : Take) : (applyTake lost t s).fixed = s.fixed := by
  rw [State.fixed_eq_iff]
  exact ⟨applyTake_pending .., applyTake_straps ..⟩

theorem applyIfIdle_fixed (t : Take) : (applyIfIdle t s).fixed = s.fixed := by
  unfold applyIfIdle
  split
  · split
    · rfl
    · exact applyTake_fixed ..
  · rfl

theorem applyAtLoss_fixed (n : LaneIx) : (applyAtLoss n s).fixed = s.fixed := by
  unfold applyAtLoss
  split
  · exact applyTake_fixed ..
  · rfl

theorem boundary_fixed (scope : Iface) {between : State → State} (h : ∀ u, (between u).fixed = u.fixed) :
    (boundary scope between s).fixed = s.fixed := by
  cases hp : pendingOn s scope with
  | none =>
    rw [boundary_none hp]
    exact (h _).trans (settleScope_fixed ..)
  | some t =>
    rw [boundary_some hp]
    exact (h _).trans (applyTake_fixed ..)

end

/-! ### The room and form tests (R25, R163) -/

section
variable {s : State}

theorem withRoom_fixed {act : State → State} (h : (act s).fixed = s.fixed) : (withRoom s act).fixed = s.fixed := by
  unfold withRoom
  split
  · exact h
  · rfl

theorem withIndex_fixed {n : Nat} {i : Iface} {tag : Word} {kind : Byte} {params : List Word}
    {act : Fin n → State → State} (h : ∀ k, (act k s).fixed = s.fixed) :
    (withIndex n i tag kind params s act).fixed = s.fixed := by
  refine withRoom_fixed ?_
  split
  · split
    · exact h _
    · rfl
  · rfl

theorem withoutParams_fixed {i : Iface} {tag : Word} {kind : Byte} {params : List Word} {act : State → State}
    (h : (act s).fixed = s.fixed) : (withoutParams i tag kind params s act).fixed = s.fixed := by
  refine withRoom_fixed ?_
  split
  · exact h
  · rfl

end

/-! ### Requests (R25, R150 to R171) -/

section
variable (s : State) (i : Iface) (tag : Word) (params : List Word)

theorem setSource_fixed : (setSource i tag params s).fixed = s.fixed := by
  refine withRoom_fixed ?_
  split
  · split <;> rfl
  · rfl

theorem setReference_fixed : (setReference i tag params s).fixed = s.fixed := by
  refine withRoom_fixed ?_
  split
  · rfl
  · split <;> rfl
  · rfl

theorem setPort_fixed : (setPort i tag params s).fixed = s.fixed := by
  refine withRoom_fixed ?_
  split
  · split
    · rw [setSides_eq]
      rfl
    · rfl
  · rfl

theorem openTake_fixed : (openTake i tag params s).fixed = s.fixed := by
  refine withIndex_fixed fun scope => ?_
  split <;> rfl

theorem setRoute_fixed : (setRoute i tag params s).fixed = s.fixed := by
  refine withRoom_fixed ?_
  split
  · split
    · unfold routeRequest
      split
      · rfl
      · split <;> rfl
    · rfl
  · rfl

theorem setPlan_fixed : (setPlan i tag params s).fixed = s.fixed := by
  refine withRoom_fixed ?_
  split
  · split
    · rfl
    · split
      · rfl
      · split <;> rfl
  · rfl

theorem commitTake_fixed : (commitTake i tag params s).fixed = s.fixed := by
  refine withoutParams_fixed ?_
  split
  · rfl
  · exact applyIfIdle_fixed ..

theorem abandonTake_fixed : (abandonTake i tag params s).fixed = s.fixed := by
  refine withoutParams_fixed ?_
  split <;> rfl

theorem undoTake_fixed : (undoTake i tag params s).fixed = s.fixed := by
  refine withIndex_fixed fun scope => ?_
  split
  · rfl
  · split
    · rfl
    · exact applyIfIdle_fixed ..

/-- A request of any kind: READ requests, CLEAR COUNTERS and RESET UNIT are their tests about an act that names neither. -/
theorem takeRequest_fixed (kind : Byte) : (takeRequest i kind tag params s).fixed = s.fixed := by
  unfold takeRequest
  split
  · exact withIndex_fixed fun _ => rfl
  · exact withIndex_fixed fun _ => rfl
  · exact withIndex_fixed fun _ => rfl
  · exact withIndex_fixed fun _ => rfl
  · exact withIndex_fixed fun _ => rfl
  · exact withoutParams_fixed rfl
  · exact withoutParams_fixed rfl
  · exact withoutParams_fixed rfl
  · exact setSource_fixed ..
  · exact setReference_fixed ..
  · exact setPort_fixed ..
  · exact withoutParams_fixed rfl
  · exact withoutParams_fixed rfl
  · exact openTake_fixed ..
  · exact setRoute_fixed ..
  · exact setPlan_fixed ..
  · exact commitTake_fixed ..
  · exact abandonTake_fixed ..
  · exact undoTake_fixed ..
  · exact withRoom_fixed rfl

theorem handOver_fixed (payload : List Word) : (handOver i payload s).fixed = s.fixed := by
  unfold handOver
  split
  · exact takeRequest_fixed ..
  · rfl

end

/-! ### Lane events (R1 to R15, R31 to R48) -/

section
variable (s : State) (n : LaneIx)

theorem stripRequest_fixed (p : List Word) : (stripRequest n p s).fixed = s.fixed := by
  unfold stripRequest
  split
  · exact handOver_fixed ..
  split
  · exact handOver_fixed ..
  · rfl

theorem stripPacket_fixed (p : List Word) : (stripPacket n s p).fixed = s.fixed := by
  unfold stripPacket
  split
  · split
    · rfl
    · unfold stripMark
      split
      · rw [takeMark_frame]
        rfl
      · rfl
    · exact stripRequest_fixed ..
    · rfl
    · rfl
  · rw [dropDamaged_frame]
    rfl

theorem stripPackets_fixed (ps : List (List Word)) : (ps.foldl (stripPacket n) s).fixed = s.fixed := by
  induction ps generalizing s with
  | nil => rfl
  | cons p ps ih => exact (ih _).trans (stripPacket_fixed ..)

theorem stripLine_fixed (j : Nat) (blanking : List Word) : (stripLine n j blanking s).fixed = s.fixed :=
  stripPackets_fixed (beginPassList n s) n (scanLine blanking).1

/-- Beside the take applied at the loss, a lane loss changes lanes, records, ports, the frame count unit and replies. -/
theorem laneLoss_fixed (state : InputState) (format : Option Format) : (laneLoss n state format s).fixed = s.fixed :=
  applyAtLoss_fixed (lostState n state format s) n

theorem inputFrameStart_fixed : (inputFrameStart n s).fixed = s.fixed := by
  unfold inputFrameStart
  split <;> rfl

theorem signalLost_fixed : (signalLost n s).fixed = s.fixed := by
  unfold signalLost
  split
  · rfl
  · rfl
  · exact laneLoss_fixed ..

theorem closeAcquiring_fixed (format : Option Format) : (closeAcquiring n format s).fixed = s.fixed := by
  unfold closeAcquiring
  split
  · exact inputFrameStart_fixed ..
  · rfl

theorem closeLocked_fixed (format : Option Format) : (closeLocked n format s).fixed = s.fixed := by
  unfold closeLocked
  split
  · exact inputFrameStart_fixed ..
  · exact laneLoss_fixed ..

theorem frameStart_fixed (timing : Option Format) : (frameStart n timing s).fixed = s.fixed := by
  unfold frameStart
  dsimp only
  split
  · rfl
  · split
    · exact closeAcquiring_fixed ..
    · rfl
  · split
    · exact closeLocked_fixed ..
    · rfl

theorem countedLine_fixed (blanking : List Word) : (countedLine n blanking s).fixed = s.fixed := by
  unfold countedLine
  dsimp only
  split
  · exact stripLine_fixed ..
  · rfl

theorem longFrame_fixed : (longFrame n s).fixed = s.fixed := by
  unfold longFrame
  split
  · exact laneLoss_fixed ..
  · rfl

theorem carriageLine_fixed (blanking : List Word) : (carriageLine n blanking s).fixed = s.fixed := by
  unfold carriageLine
  dsimp only
  split
  · rfl
  split
  · rfl
  split
  · exact countedLine_fixed ..
  · exact longFrame_fixed ..

theorem outputFrameStart_fixed : (outputFrameStart n s).fixed = s.fixed := by
  unfold outputFrameStart
  split
  · exact boundary_fixed _ _ fun _ => rfl
  · rfl

theorem outputLineBuild_fixed : (outputLineBuild n s).fixed = s.fixed := by
  unfold outputLineBuild
  split <;> rfl

end

/-! ### Port events (R122 to R135) -/

section
variable (s : State) (p : PortIx)

theorem judgeBundle_fixed (channel : Nat) (count : Byte) (n : Nat) (words : List Word) (length : Nat) :
    (judgeBundle p channel count n words length s).fixed = s.fixed := by
  unfold judgeBundle
  split
  · split <;> rfl
  split
  · split
    · unfold controlBundleTaken
      split
      · exact handOver_fixed ..
      · rfl
    · rfl
  · rfl

theorem stageWord_fixed (w : PortWord) : (stageWord p w s).fixed = s.fixed := by
  unfold stageWord
  split
  · unfold stageIdle
    split
    · split <;> rfl
    · rfl
  · unfold stageHeader
    split
    · split <;> rfl
    · rfl
  · unfold stageBody
    split
    · split
      · rfl
      · exact judgeBundle_fixed ..
      · rfl
    · rfl

theorem takeStagingWord_fixed : (takeStagingWord p s).fixed = s.fixed := by
  unfold takeStagingWord
  split
  · exact stageWord_fixed ..
  · rfl

theorem portFrame_fixed : (portFrame p s).fixed = s.fixed :=
  boundary_fixed (s.modifyPort p fun x => { x with frameDue := false }) (portScope p) fun _ => rfl

theorem writeReply_fixed : (writeReply p s).fixed = s.fixed := by
  unfold writeReply
  split
  · split <;> rfl
  · rfl

theorem portPeriod_fixed : (portPeriod p s).fixed = s.fixed := by
  unfold portPeriod
  split
  · exact writeReply_fixed ..
  · rfl
  · rfl

theorem stallPort_fixed : (stallPort p s).fixed = s.fixed := by
  unfold stallPort
  split <;> rfl

end

end Sys2Proof.Machine
end

section
/-! Every command completes and keeps the waiting commands and the straps; CLEAR COUNTERS (R169, R172): O3, O46. -/

namespace Sys2Proof.Machine

/-! ### Every command -/

section
variable {c : Instr} {s : State}

/-- While power-on reset is held a command changes lanes alone (R17; log entry 3). -/
theorem exec_fixed_held (hs : s.resetHeld = true) (hc : ∀ u role lane, c ≠ .powerOnResetRelease u role lane) :
    ∃ t, exec c s = .next t ∧ t.fixed = s.fixed := by
  obtain ⟨t, hexec, hframe, -⟩ := (powerOnResetHoldsBypass s).2.2 hs c hc
  exact ⟨t, hexec, by rw [hframe]; rfl⟩

/-- A request row completes with the control unit's taking of its request (R25, R163). -/
theorem exec_fixed_request (hs : s.resetHeld = false) {q : Request} (hq : requestOf c = some q) :
    ∃ t, exec c s = .next t ∧ t.fixed = s.fixed := by
  obtain ⟨kind, -, hexec | ⟨-, hexec⟩⟩ := exec_request_cases hs hq
  · exact ⟨_, hexec, takeRequest_fixed ..⟩
  · exact ⟨_, hexec, withRoom_fixed rfl⟩

theorem exec_fixed_takeExpiry (hs : s.resetHeld = false) : ∃ t, exec .takeExpiry s = .next t ∧ t.fixed = s.fixed := by
  cases htake : s.take with
  | none => exact ⟨_, exec_takeExpiry_none hs htake, rfl⟩
  | some k =>
    refine ⟨_, exec_takeExpiry_some hs htake, ?_⟩
    split <;> rfl

/-- Out of power-on reset, by command. -/
theorem exec_fixed_powered (hs : s.resetHeld = false) (hc : ∀ u role lane, c ≠ .powerOnResetRelease u role lane) :
    ∃ t, exec c s = .next t ∧ t.fixed = s.fixed := by
  cases hq : requestOf c with
  | some q => exact exec_fixed_request hs hq
  | none =>
    cases c with
    | powerOnResetAssert => exact ⟨_, rfl, rfl⟩
    | powerOnResetRelease u role lane => exact absurd rfl (hc u role lane)
    | linkSignalAppears n => exact ⟨_, exec_linkSignalAppears hs n, rfl⟩
    | linkSignalLost n => exact ⟨_, exec_linkSignalLost hs n, signalLost_fixed ..⟩
    | frameStart n timing => exact ⟨_, exec_frameStart hs n timing, frameStart_fixed ..⟩
    | inputCarriageLine n blanking => exact ⟨_, exec_inputCarriageLine hs n blanking, carriageLine_fixed ..⟩
    | outputFrameStart n => exact ⟨_, exec_outputFrameStart hs n, outputFrameStart_fixed ..⟩
    | outputLineBuild n => exact ⟨_, powered_on hs _, outputLineBuild_fixed ..⟩
    | portWordReceived p w => exact ⟨_, powered_on hs fun s => s.modifyPort p (receiveWord w), rfl⟩
    | stagingWordTaken p => exact ⟨_, powered_on hs _, takeStagingWord_fixed ..⟩
    | channelAbsenceTimeout p channel => exact ⟨_, powered_on hs _, rfl⟩
    | portFrame p => exact ⟨_, powered_on hs _, portFrame_fixed ..⟩
    | portPeriod p =>
      exact ⟨_, powered_on hs fun s => portPeriod p (s.modifyPort p fun x => { x with periodDue := false }),
        portPeriod_fixed ..⟩
    | transmitStall p => exact ⟨_, powered_on hs _, stallPort_fixed ..⟩
    | outFifoWordTaken p => exact ⟨_, powered_on hs fun s => s.modifyPort p giveWord, rfl⟩
    | takeExpiry => exact exec_fixed_takeExpiry hs
    | _ => cases hq

theorem exec_fixed (hc : ∀ u role lane, c ≠ .powerOnResetRelease u role lane) :
    ∃ t, exec c s = .next t ∧ t.fixed = s.fixed := by
  cases hs : s.resetHeld with
  | true => exact exec_fixed_held hs hc
  | false => exact exec_fixed_powered hs hc

end

/-- Settles O3: the release keeps the waiting commands; every other command keeps them and the straps. -/
theorem commandsCompleteAndKeepQueueAndStraps : Obligations.CommandsCompleteAndKeepQueueAndStraps := by
  intro c s
  by_cases hrelease : ∃ u role lane, c = .powerOnResetRelease u role lane
  · obtain ⟨u, role, lane, rfl⟩ := hrelease
    exact ⟨_, rfl, rfl, fun hc => absurd rfl (hc u role lane)⟩
  · have hc (u : BitVec 7) (role : Role) (lane : LaneIx) : c ≠ .powerOnResetRelease u role lane :=
      fun e => hrelease ⟨u, role, lane, e⟩
    obtain ⟨t, hexec, hfixed⟩ := exec_fixed (s := s) hc
    obtain ⟨hpending, hstraps⟩ := (State.fixed_eq_iff s t).1 hfixed
    exact ⟨t, hexec, hpending, fun _ => hstraps⟩

/-! ### CLEAR COUNTERS (R169) -/

theorem exec_clearCounters {s : State} (hs : s.resetHeld = false) (hroom : s.replies.length < 8) (i : Iface) (tag : Word) :
    exec (.clearCounters i tag []) s = .next ((zeroCounters s).answer i 0 tag 0x18 []) := by
  have hrow : exec (.clearCounters i tag []) s = powered s (clearCounters i tag []) := rfl
  rw [hrow, powered_on hs, clearCounters, withoutParams_nil hroom, queueReply_eq_answer]
  rfl

/-- Settles O46: table by table, each counter record at its zero. -/
theorem countersAreCleared : Obligations.CountersAreCleared := by
  intro i tag s hs hroom
  refine ⟨zeroCounters s, exec_clearCounters hs hroom i tag, rfl, fun n => ?_, fun k => ?_, fun d => ?_, fun p => ?_⟩
  all_goals
    simp only [zeroCounters, updateAll_getElem_fin]
    rfl

end Sys2Proof.Machine
end

section
/-! One step of a part whose queue holds a command: O1. -/

namespace Sys2Proof.Machine

/-- Settles O1: `step_cons` at the state whose queue begins with the command; writing the queue a second time leaves only the
commands behind it. -/
theorem stepRunsFrontCommand : Obligations.StepRunsFrontCommand := by
  intro c rest s
  exact step_cons c rest { s with pending := c :: rest } rfl

end Sys2Proof.Machine
end
